-- ==== Sys2Proof/Word.lean ====
section
/-! DEFINITION. The word types of CRCF (00_scope.md R10, R12): `u8`, `u32`, `u4` and byte sequences. All are unsigned. -/

namespace Sys2Proof

/-- `u8` (00_scope.md R10). -/
abbrev Byte := BitVec 8

/-- `u32` (00_scope.md R10). -/
abbrev Word := BitVec 32

/-- `u4` (00_scope.md R10): an op code, a fault reason code. -/
abbrev Nibble := BitVec 4

/-- A message, payload, chunk or image: a finite sequence of bytes, index 0 first on the wire
(00_scope.md R12, 20_memory.md R40). -/
abbrev Message := List Byte

end Sys2Proof
end

