-- ==== Sys2Proof/Config.lean ====
section
/-! DEFINITION. The parameters of CRCF and of its host: the fixed ones (00_scope.md R7), the open ones (R8) and the host's (R9). -/

namespace Sys2Proof

/-- The open parameter an instance of CRCF is built with (00_scope.md R8, 10_state.md R25). State holds
one as plain data and no step changes it, so a claim about every state is a claim about both values.
DESIGN CHOICE, safe (log 4). -/
structure Config where
  /-- `CHUNK_CRC_INCLUDES_LENGTH`: whether a chunk packet's checksum covers its length byte as well as its
  chunk bytes. Default `false` (00_scope.md R8, 90_conflicts.md C5). -/
  chunkCrcIncludesLength : Bool := false
  deriving DecidableEq, Repr

namespace Config

/-- The default configuration (00_scope.md R8). -/
def default : Config := { chunkCrcIncludesLength := false }

/-- `POLY` (00_scope.md R7). -/
def poly : Word := 0x04C11DB7#32

/-- `INIT` (00_scope.md R7). -/
def init : Word := 0xFFFFFFFF#32

/-- `XOROUT` (00_scope.md R7). -/
def xorOut : Word := 0x00000000#32

/-- `CRC_LEN`: bytes in the checksum field (00_scope.md R7). -/
@[simp] abbrev crcLen : Nat := 4

/-- `LEN_MAX`: largest length byte (00_scope.md R7). -/
@[simp] abbrev lenMax : Nat := 255

/-- `PAYLOAD_MAX`: largest command-packet payload (00_scope.md R7). -/
@[simp] abbrev payloadMax : Nat := 254

/-- `CHUNK_MAX`: largest chunk (00_scope.md R7). -/
@[simp] abbrev chunkMax : Nat := 252

/-- `CMD_PKT_MIN` (00_scope.md R7). -/
@[simp] abbrev cmdPktMin : Nat := 6

/-- `CHUNK_PKT_MIN` (00_scope.md R7). -/
@[simp] abbrev chunkPktMin : Nat := 6

/-- `CMD_PKT_MAX` (00_scope.md R7). -/
@[simp] abbrev cmdPktMax : Nat := 260

/-- `CHUNK_PKT_MAX` (00_scope.md R7). -/
@[simp] abbrev chunkPktMax : Nat := 257

/-- `DEVICE_RX_MAX`: OPEN, the device's receive-buffer limit in bytes. No rule of CRCF reads it; a claim about
the device is made for every limit that meets its bound (00_scope.md R8, 70_reset_and_hazards.md R258). It has no
body, so nothing can evaluate it (log 5). -/
opaque deviceRxMax : Nat

/-- `T = 5 s`, the host's response timeout, in milliseconds (00_scope.md R9). -/
@[simp] abbrev responseTimeoutMs : Nat := 5000

/-- `PACE = 500 ms`, the host's delay after every send (00_scope.md R9). -/
@[simp] abbrev paceMs : Nat := 500

/-- `MAX_ATTEMPTS_HANDSHAKE`: the first packet of GetVersion (00_scope.md R9). -/
@[simp] abbrev maxAttemptsHandshake : Nat := 1

/-- `MAX_ATTEMPTS_CMD`: EraseFlash and JumpToAddress (00_scope.md R9). -/
@[simp] abbrev maxAttemptsCmd : Nat := 5

/-- `MAX_ATTEMPTS_XFER`: each FlashProgram packet (00_scope.md R9). -/
@[simp] abbrev maxAttemptsXfer : Nat := 3

/-- The sentinel address of a JumpSpec, "jump to resident application" (00_scope.md R16, 30_encoding.md R67). -/
def sentinelAddress : Word := 0xFFFFFFFF#32

/-- `persistChoice` "boot to application next power-up" (30_encoding.md R67). -/
def persistApplication : Byte := 0xFF#8

/-- `persistChoice` "remain in bootloader next power-up" (30_encoding.md R67). -/
def persistBootloader : Byte := 0xAA#8

end Config

end Sys2Proof
end

