-- ==== Sys2Proof/Machine/Operands.lean ====
section
/-! DEFINITION. The operand forms of CRCF (00_scope.md R10 to R13, 30_encoding.md R75): byte, big-endian word, subsequence. No operand is sign-extended, scaled or shifted. -/

namespace Sys2Proof.Machine

/-- `zext32(b)` (00_scope.md R11). -/
def zext32 (b : Byte) : Word := b.setWidth 32

/-- A byte with the value `n`, which its user has checked to fit (30_encoding.md R75). -/
def lengthByte (n : Nat) : Byte := BitVec.ofNat 8 n

/-- `be32(v) = [v[31:24], v[23:16], v[15:8], v[7:0]]` (00_scope.md R13). -/
def be32 (v : Word) : Message :=
  [v.extractLsb' 24 8, v.extractLsb' 16 8, v.extractLsb' 8 8, v.extractLsb' 0 8]

/-- `from_be32(xs) = xs[0]*2^24 + xs[1]*2^16 + xs[2]*2^8 + xs[3]` of a 4-byte sequence (00_scope.md R13). The spec
defines it for no other length, and no operation applies it to one (log 22). -/
def fromBe32 : Message → Word
  | [x0, x1, x2, x3] =>
    BitVec.ofNat 32 (x0.toNat * 2 ^ 24 + x1.toNat * 2 ^ 16 + x2.toNat * 2 ^ 8 + x3.toNat)
  | _ => 0#32

/-- `xs[i]`, read only where `i < len(xs)` (00_scope.md R12; log 22). -/
def byteAt (xs : Message) (i : Nat) : Byte := xs.getD i 0#8

/-- `xs[i..j)`: elements `i` to `j - 1` (00_scope.md R12). -/
def slice (xs : Message) (i j : Nat) : Message := (xs.take j).drop i

end Sys2Proof.Machine
end

