-- ==== Sys2Proof/Machine/Crc.lean ====
section
/-! DEFINITION. The CRC-32 algorithm (40_crc_engine.md R100 to R104), as pure functions over the register's value. -/

namespace Sys2Proof.Machine

/-- One shift: the top bit is tested, then shifted out, and decides whether `POLY` is XORed in (40_crc_engine.md R100). -/
def shiftStep (c : Word) : Word :=
  if c.getLsbD 31 then (c <<< 1) ^^^ Config.poly else c <<< 1

/-- `n` shifts. -/
def shiftSteps : Nat → Word → Word
  | 0, c => c
  | n + 1, c => shiftSteps n (shiftStep c)

/-- `crc_step8(c, x)` (40_crc_engine.md R100). -/
def crcStep8 (c : Word) (x : Byte) : Word := shiftSteps 8 (c ^^^ (zext32 x <<< 24))

/-- `crc_raw(c, bytes)` (40_crc_engine.md R102). -/
def crcRaw (c : Word) (bytes : Message) : Word := bytes.foldl crcStep8 c

/-- One byte as its big-endian word `00 00 00 b` (40_crc_engine.md R101). -/
def expandByte (b : Byte) : Message := [0#8, 0#8, 0#8, b]

/-- `expand(data)` (40_crc_engine.md R101). -/
def expand (data : Message) : Message := data.flatMap expandByte

/-- `checksum(data) = crc_raw(INIT, expand(data)) ^ XOROUT` (40_crc_engine.md R103). -/
def checksum (data : Message) : Word := crcRaw Config.init (expand data) ^^^ Config.xorOut

/-- `crc_word(c, w)` (40_crc_engine.md R104). -/
def crcWord (c w : Word) : Word := shiftSteps 32 (c ^^^ w)

end Sys2Proof.Machine
end

