-- ==== Sys2Proof/Machine/Packet.lean ====
section
/-! DEFINITION. The two packet formats (30_encoding.md R61 to R64): their bytes, and the check of a received packet that 42_deframer.md R150 and R155 share. -/

namespace Sys2Proof.Machine

/-- The bytes a command packet's checksum covers: length, command, payload (30_encoding.md R63). -/
def commandCovered (command : Byte) (payload : Message) : Message :=
  [lengthByte (1 + payload.length), command] ++ payload

/-- A command packet (30_encoding.md R61). -/
def commandPacket (command : Byte) (payload : Message) : Message :=
  commandCovered command payload ++ be32 (checksum (commandCovered command payload))

/-- What a chunk packet's checksum covers, of `[L] ++ K` (30_encoding.md R64). -/
def chunkCover (config : Config) (framed : Message) : Message :=
  if config.chunkCrcIncludesLength then framed else framed.drop 1

/-- `[L] ++ K` (30_encoding.md R62). -/
def chunkFramed (chunk : Message) : Message := lengthByte chunk.length :: chunk

/-- The bytes a chunk packet's checksum covers (30_encoding.md R64). -/
def chunkCovered (config : Config) (chunk : Message) : Message := chunkCover config (chunkFramed chunk)

/-- A chunk packet (30_encoding.md R62). -/
def chunkPacket (config : Config) (chunk : Message) : Message :=
  chunkFramed chunk ++ be32 (checksum (chunkCovered config chunk))

/-- The JumpToAddress persist byte that is sent (41_framer.md R133): `none` where the framer faults. -/
def forcedPersist (targetAddress : Word) (persistChoice : Byte) : Option Byte :=
  if targetAddress = Config.sentinelAddress then
    if persistChoice ≠ Config.persistApplication ∧ persistChoice ≠ Config.persistBootloader then none
    else some persistChoice
  else some Config.persistApplication

/-- The EraseFlash payload (30_encoding.md R67). -/
def erasePayload (startSector sectorCount : Byte) : Message := [startSector, sectorCount]

/-- The FlashProgram payload (30_encoding.md R67). -/
def programPayload (major minor patch : Byte) (startAddress imageSize : Word) : Message :=
  [major, minor, patch] ++ be32 startAddress ++ be32 imageSize

/-- The JumpToAddress payload (30_encoding.md R67). -/
def jumpPayload (targetAddress : Word) (persistChoice : Byte) : Message :=
  be32 targetAddress ++ [persistChoice]

/-- The answer of the check of a received packet. A check that reaches the checksum comparison carries the checksum
it computed, which `crc` is left holding (42_deframer.md R150, R155). -/
inductive PacketCheck where
  | short
  | badLength
  | badChecksum (crc : Word)
  | ok (crc : Word)
  deriving DecidableEq, Repr

/-- The check of a received packet, its tests in the order of 42_deframer.md R152: length at least `pktMin`; length byte
`L` at most `lenMax` and the message exactly `L + 5` bytes (R151); the checksum field equal to the checksum of what
`cover` keeps of `m[0 .. 1+L)`. -/
def checkPacket (pktMin lenMax : Nat) (cover : Message → Message) (m : Message) : PacketCheck :=
  if m.length < pktMin then .short
  else
    let l := (byteAt m 0).toNat
    if lenMax < l ∨ m.length ≠ l + 5 then .badLength
    else
      let crc := checksum (cover (slice m 0 (1 + l)))
      if fromBe32 (slice m (1 + l) (5 + l)) ≠ crc then .badChecksum crc else .ok crc

/-- The check of a received command packet (42_deframer.md R150); every length byte is allowed. -/
def checkCommand (m : Message) : PacketCheck := checkPacket Config.cmdPktMin Config.lenMax id m

/-- The check of a received chunk packet (42_deframer.md R155). -/
def checkChunk (config : Config) (m : Message) : PacketCheck :=
  checkPacket Config.chunkPktMin Config.chunkMax (chunkCover config) m

/-- The payload of a received command packet, `m[2 .. 1+L)` (42_deframer.md R150). -/
def receivedPayload (m : Message) : Message := slice m 2 (1 + (byteAt m 0).toNat)

/-- The chunk of a received chunk packet, `m[1 .. 1+L)` (42_deframer.md R155). -/
def receivedChunk (m : Message) : Message := slice m 1 (1 + (byteAt m 0).toNat)

end Sys2Proof.Machine
end

