-- ==== Sys2Proof/Syntax.lean ====
section
/-! DEFINITION. The instructions of CRCF: the operations of its port and the wire codes it produces and parses (00_scope.md R2), one constructor per row of spec/opcode_table.json, and the two forms they are encoded in (30_encoding.md). -/

namespace Sys2Proof

/-- One row of spec/opcode_table.json per constructor, in the table's order, with the operands the row uses
(30_encoding.md R71 for the operations, R66 to R68 for the wire codes). -/
inductive Instr where
  /-- `0x0` CRC_INIT (40_crc_engine.md R110). -/
  | crcInit
  /-- `0x1` CRC_FEED, `a` = input byte (40_crc_engine.md R111). -/
  | crcFeed (b : Byte)
  /-- `0x2` CRC_READ (40_crc_engine.md R112). -/
  | crcRead
  /-- `0x3` CHECKSUM (40_crc_engine.md R113). -/
  | checksum (data : Message)
  /-- `0x4` FRAME_CMD, `a` = command byte, `data` = payload (41_framer.md R121). -/
  | frameCmd (command : Byte) (payload : Message)
  /-- `0x5` FRAME_CHUNK (41_framer.md R124). -/
  | frameChunk (chunk : Message)
  /-- `0x6` EMIT_CTRL, `a` = control byte (41_framer.md R126). -/
  | emitCtrl (control : Byte)
  /-- `0x7` FRAME_GETVERSION (41_framer.md R130). -/
  | frameGetversion
  /-- `0x8` FRAME_ERASE, `a` = startSector, `b` = sectorCount (41_framer.md R131). -/
  | frameErase (startSector sectorCount : Byte)
  /-- `0x9` FRAME_PROGRAM_HDR, `a`, `b`, `c` = version, `w0` = startAddress, `w1` = imageSize (41_framer.md R132). -/
  | frameProgramHdr (major minor patch : Byte) (startAddress imageSize : Word)
  /-- `0xA` FRAME_JUMP, `w0` = targetAddress, `a` = persistChoice (41_framer.md R133). -/
  | frameJump (targetAddress : Word) (persistChoice : Byte)
  /-- `0xB` DEFRAME_CMD, `data` = received message (42_deframer.md R150). -/
  | deframeCmd (message : Message)
  /-- `0xC` DEFRAME_CHUNK, `data` = received message (42_deframer.md R155). -/
  | deframeChunk (message : Message)
  /-- `0xD` CLASSIFY, `data` = received message (42_deframer.md R160). -/
  | classify (message : Message)
  /-- `0xE` STATUS_READ (40_crc_engine.md R114). -/
  | statusRead
  /-- `0xF`, reserved (60_exceptions.md R202). -/
  | reservedF
  /-- Command packet `0x00` GetVersion (30_encoding.md R66, R67). -/
  | pktGetversion
  /-- Command packet `0x01` EraseFlash (30_encoding.md R66, R67). -/
  | pktEraseflash (startSector sectorCount : Byte)
  /-- Command packet `0x02` FlashProgram (30_encoding.md R66, R67). -/
  | pktFlashprogram (major minor patch : Byte) (startAddress imageSize : Word)
  /-- Command packet `0x03` JumpToAddress (30_encoding.md R66, R67). -/
  | pktJumptoaddress (targetAddress : Word) (persistChoice : Byte)
  /-- Command packet that is none of the four above: a command byte that is no CommandKind, `0x04` to `0xFF` (30_encoding.md
  R69), or a CommandKind with a payload its builder does not send, which FRAME_CMD frames all the same (41_framer.md R121;
  log 8). -/
  | pktCommandOther (command : Byte) (payload : Message)
  /-- Chunk packet (30_encoding.md R62). -/
  | pktChunk (chunk : Message)
  /-- Control byte `0x04` RequestAcknowledge (30_encoding.md R65). -/
  | ctrlRequestAcknowledge
  /-- Control byte `0x05` RequestVersion (30_encoding.md R65). -/
  | ctrlRequestVersion
  /-- Response `[0xFF]` (30_encoding.md R68). -/
  | rspAcknowledge
  /-- Response `[0x01]` (30_encoding.md R68). -/
  | rspNegativeAcknowledge
  /-- Response of three bytes (30_encoding.md R68). -/
  | rspVersionReport (major minor patch : Byte)
  /-- Any other response, with its bytes (30_encoding.md R68). -/
  | rspUnrecognized (raw : Message)
  deriving DecidableEq, Repr

/-- An operation request, all seven fields (30_encoding.md R71). -/
structure Request where
  /-- Selects the operation. -/
  op : Nibble
  a : Byte
  b : Byte
  c : Byte
  w0 : Word
  w1 : Word
  /-- A byte sequence of any length. -/
  data : Message
  deriving DecidableEq, Repr

/-- The `format` of a wire row of spec/opcode_table.json: the kind of message, which a receiver knows by context
(30_encoding.md R60, 42_deframer.md R157). -/
inductive WireFormat where
  /-- `wire_command`, host to device. -/
  | command
  /-- `wire_chunk`, host to device. -/
  | chunk
  /-- `wire_control`, host to device. -/
  | control
  /-- `wire_response`, device to host. -/
  | response
  deriving DecidableEq, Repr

/-- An encoded instruction: a request on the operation port (30_encoding.md section 2) or a whole message of a wire
format (section 1). -/
inductive Code where
  | request (r : Request)
  | wire (format : WireFormat) (message : Message)
  deriving DecidableEq, Repr

/-- Why a message is no wire code of its format. -/
inductive WireError where
  /-- Fewer than 6 bytes (42_deframer.md R150, R155). -/
  | short
  /-- The length byte and the message's length disagree, or a chunk's length byte is over 252 (42_deframer.md R151, R155). -/
  | badLength
  /-- The checksum field is not the checksum (30_encoding.md R63, R64). -/
  | badChecksum
  /-- Not one of the two control bytes (30_encoding.md R65). -/
  | notControl
  deriving DecidableEq, Repr

end Sys2Proof
end

