-- ==== Sys2Proof/WellFormed.lean ====
section
/-! DEFINITION. Which instructions the encodings of 30_encoding.md can carry. A port request takes every operand (R71); a wire code takes the fields its row allows. -/

namespace Sys2Proof

/-- A JumpToAddress packet's persist byte as the framer sends it: either choice with the sentinel address, forced to `0xFF`
with any other (30_encoding.md R67, 41_framer.md R133). -/
def persistAllowed (targetAddress : Word) (persistChoice : Byte) : Bool :=
  if targetAddress = Config.sentinelAddress then
    persistChoice = Config.persistApplication || persistChoice = Config.persistBootloader
  else persistChoice = Config.persistApplication

/-- Whether command byte and payload are those of a CommandKind as its builder sends it (30_encoding.md R66, R67; the persist
byte as in `persistAllowed`). -/
def isKindPayload (command : Byte) (payload : Message) : Bool :=
  match command.toNat with
  | 0x00 => payload.length = 0
  | 0x01 => payload.length = 2
  | 0x02 => payload.length = 11
  | 0x03 =>
    match payload with
    | [a0, a1, a2, a3, p] => persistAllowed (Machine.fromBe32 [a0, a1, a2, a3]) p
    | _ => false
  | _ => false

/-- The checks of the encodings (30_encoding.md R61, R62, R66 to R69, R71). -/
def Instr.wf : Instr → Bool
  | .crcInit => true
  | .crcFeed _ => true
  | .crcRead => true
  | .checksum _ => true
  | .frameCmd _ _ => true
  | .frameChunk _ => true
  | .emitCtrl _ => true
  | .frameGetversion => true
  | .frameErase _ _ => true
  | .frameProgramHdr _ _ _ _ _ => true
  | .frameJump _ _ => true
  | .deframeCmd _ => true
  | .deframeChunk _ => true
  | .classify _ => true
  | .statusRead => true
  | .reservedF => true
  | .pktGetversion => true
  | .pktEraseflash _ _ => true
  | .pktFlashprogram _ _ _ _ _ => true
  | .pktJumptoaddress a p => persistAllowed a p
  | .pktCommandOther c p => !isKindPayload c p && decide (p.length ≤ Config.payloadMax)
  | .pktChunk k => decide (1 ≤ k.length) && decide (k.length ≤ Config.chunkMax)
  | .ctrlRequestAcknowledge => true
  | .ctrlRequestVersion => true
  | .rspAcknowledge => true
  | .rspNegativeAcknowledge => true
  | .rspVersionReport _ _ _ => true
  | .rspUnrecognized m => decide (m ≠ [0xFF#8]) && decide (m ≠ [0x01#8]) && decide (m.length ≠ 3)

end Sys2Proof
end

