-- ==== Sys2Proof/Decode.lean ====
section
/-! DEFINITION. The decoder, total on every request and on any bytes of a wire format, rejecting by name, and after it the encoder (30_encoding.md). -/

namespace Sys2Proof

open Machine

/-- The operation a request names (30_encoding.md R71). The fields an operation does not use are ignored. -/
def decodeRequest (r : Request) : Instr :=
  match r.op.toNat with
  | 0x0 => .crcInit
  | 0x1 => .crcFeed r.a
  | 0x2 => .crcRead
  | 0x3 => .checksum r.data
  | 0x4 => .frameCmd r.a r.data
  | 0x5 => .frameChunk r.data
  | 0x6 => .emitCtrl r.a
  | 0x7 => .frameGetversion
  | 0x8 => .frameErase r.a r.b
  | 0x9 => .frameProgramHdr r.a r.b r.c r.w0 r.w1
  | 0xA => .frameJump r.w0 r.a
  | 0xB => .deframeCmd r.data
  | 0xC => .deframeChunk r.data
  | 0xD => .classify r.data
  | 0xE => .statusRead
  | _ => .reservedF

/-- The command packet row of a command byte and a payload (30_encoding.md R66, R67, R69). Every pair has one, as FRAME_CMD
checks neither (41_framer.md R121): what no CommandKind's builder sends is a PKT_COMMAND_OTHER (log 8). -/
def decodeCommandBody (command : Byte) (payload : Message) : Instr :=
  match command.toNat with
  | 0x00 =>
    match payload with
    | [] => .pktGetversion
    | _ => .pktCommandOther command payload
  | 0x01 =>
    match payload with
    | [s, n] => .pktEraseflash s n
    | _ => .pktCommandOther command payload
  | 0x02 =>
    match payload with
    | [x, y, z, a0, a1, a2, a3, s0, s1, s2, s3] =>
      .pktFlashprogram x y z (fromBe32 [a0, a1, a2, a3]) (fromBe32 [s0, s1, s2, s3])
    | _ => .pktCommandOther command payload
  | 0x03 =>
    match payload with
    | [a0, a1, a2, a3, p] =>
      if persistAllowed (fromBe32 [a0, a1, a2, a3]) p then .pktJumptoaddress (fromBe32 [a0, a1, a2, a3]) p
      else .pktCommandOther command payload
    | _ => .pktCommandOther command payload
  | _ => .pktCommandOther command payload

/-- A command packet's row (30_encoding.md R61, R66). -/
def decodeCommand (m : Message) : Except WireError Instr :=
  match checkCommand m with
  | .short => .error .short
  | .badLength => .error .badLength
  | .badChecksum _ => .error .badChecksum
  | .ok _ => .ok (decodeCommandBody (byteAt m 1) (receivedPayload m))

/-- The chunk packet's row (30_encoding.md R62). -/
def decodeChunk (config : Config) (m : Message) : Except WireError Instr :=
  match checkChunk config m with
  | .short => .error .short
  | .badLength => .error .badLength
  | .badChecksum _ => .error .badChecksum
  | .ok _ => .ok (.pktChunk (receivedChunk m))

/-- A control byte's row (30_encoding.md R65). -/
def decodeControl (m : Message) : Except WireError Instr :=
  if m = [0x04#8] then .ok .ctrlRequestAcknowledge
  else if m = [0x05#8] then .ok .ctrlRequestVersion
  else .error .notControl

/-- A response's row; every message has one (30_encoding.md R68, R69). -/
def decodeResponse (m : Message) : Instr :=
  if m = [0xFF#8] then .rspAcknowledge
  else if m = [0x01#8] then .rspNegativeAcknowledge
  else
    match m with
    | [x, y, z] => .rspVersionReport x y z
    | _ => .rspUnrecognized m

/-- A message's row in its wire format (30_encoding.md section 1). -/
def decodeWire (config : Config) : WireFormat → Message → Except WireError Instr
  | .command, m => decodeCommand m
  | .chunk, m => decodeChunk config m
  | .control, m => decodeControl m
  | .response, m => .ok (decodeResponse m)

/-- The decoder (30_encoding.md): a request always names an operation; a message is a wire code of its format or is
rejected by name. -/
def decode (config : Config) : Code → Except WireError Instr
  | .request r => .ok (decodeRequest r)
  | .wire format m => decodeWire config format m

/-- The request with op code `op` and every operand zero or empty. -/
def Request.ofOp (op : Nibble) : Request :=
  { op := op, a := 0#8, b := 0#8, c := 0#8, w0 := 0#32, w1 := 0#32, data := [] }

/-- The encoder, from the tables of 30_encoding.md: the op codes and operand fields of R71, the packets of R61 and R62, the
control bytes of R65, the responses of R68. A field an operation does not use is zero or empty. -/
def encode (config : Config) : Instr → Code
  | .crcInit => .request (Request.ofOp 0x0#4)
  | .crcFeed b => .request { Request.ofOp 0x1#4 with a := b }
  | .crcRead => .request (Request.ofOp 0x2#4)
  | .checksum data => .request { Request.ofOp 0x3#4 with data := data }
  | .frameCmd c p => .request { Request.ofOp 0x4#4 with a := c, data := p }
  | .frameChunk k => .request { Request.ofOp 0x5#4 with data := k }
  | .emitCtrl c => .request { Request.ofOp 0x6#4 with a := c }
  | .frameGetversion => .request (Request.ofOp 0x7#4)
  | .frameErase s n => .request { Request.ofOp 0x8#4 with a := s, b := n }
  | .frameProgramHdr x y z a s =>
    .request { Request.ofOp 0x9#4 with a := x, b := y, c := z, w0 := a, w1 := s }
  | .frameJump a p => .request { Request.ofOp 0xA#4 with w0 := a, a := p }
  | .deframeCmd m => .request { Request.ofOp 0xB#4 with data := m }
  | .deframeChunk m => .request { Request.ofOp 0xC#4 with data := m }
  | .classify m => .request { Request.ofOp 0xD#4 with data := m }
  | .statusRead => .request (Request.ofOp 0xE#4)
  | .reservedF => .request (Request.ofOp 0xF#4)
  | .pktGetversion => .wire .command (commandPacket 0x00#8 [])
  | .pktEraseflash s n => .wire .command (commandPacket 0x01#8 (erasePayload s n))
  | .pktFlashprogram x y z a s => .wire .command (commandPacket 0x02#8 (programPayload x y z a s))
  | .pktJumptoaddress a p => .wire .command (commandPacket 0x03#8 (jumpPayload a p))
  | .pktCommandOther c p => .wire .command (commandPacket c p)
  | .pktChunk k => .wire .chunk (chunkPacket config k)
  | .ctrlRequestAcknowledge => .wire .control [0x04#8]
  | .ctrlRequestVersion => .wire .control [0x05#8]
  | .rspAcknowledge => .wire .response [0xFF#8]
  | .rspNegativeAcknowledge => .wire .response [0x01#8]
  | .rspVersionReport x y z => .wire .response [x, y, z]
  | .rspUnrecognized m => .wire .response m

/-- The bytes of a table word of `nbits` bits, first byte lowest. -/
def tableBytes (nbits w : Nat) : Message :=
  (List.range (nbits / 8)).map fun i => BitVec.ofNat 8 (w / 2 ^ (8 * i))

/-- The code a word of spec/opcode_table.json stands for (log 7). The table gives an operation four bits, so a word of one
byte whose high nibble is zero is the port request with that op code and no operands. Any other word is read as a whole
received message. A one-byte wire row with the same bits as an op code cannot be told from it by its bits alone. -/
def tableCode (nbits w : Nat) : Code :=
  if 1 ≤ nbits ∧ nbits ≤ 8 ∧ w < 16 then .request (Request.ofOp (BitVec.ofNat 4 w))
  else .wire .response (tableBytes nbits w)

/-- The instruction the decoder reads from a table word (log 7). -/
def decodeTableWord (nbits w : Nat) : Option Instr := (decode Config.default (tableCode nbits w)).toOption

end Sys2Proof
end

