-- ==== Sys2Proof/Machine/State.lean ====
section
/-! DEFINITION. The state of CRCF (10_state.md R20 to R27), the model's interface to it, and the host environment beside it (60_exceptions.md sections 2 to 5), all plain data; and the state after reset (70_reset_and_hazards.md R250, R252). -/

namespace Sys2Proof.Machine

/-- The reasons of CRCF's own faults (60_exceptions.md R201). A fault is a result, after which CRCF goes on (R200). -/
inductive FaultReason where
  /-- Code 1: the reserved op code (R202). -/
  | illegalOp
  /-- Code 2: FRAME_CMD with a payload over 254 bytes (41_framer.md R121). -/
  | lengthOverflow
  /-- Code 3: FRAME_CHUNK with 0 or more than 252 bytes (41_framer.md R124). -/
  | badChunk
  /-- Code 4: EMIT_CTRL with a byte other than `0x04` and `0x05` (41_framer.md R126). -/
  | badControl
  /-- Code 5: FRAME_JUMP, sentinel address, `persistChoice` other than `0xFF` and `0xAA` (41_framer.md R133). -/
  | badPersist
  deriving DecidableEq, Repr

/-- A deframer's verdict (30_encoding.md R73). `Ok` carries the decoded fields, those of a command packet or of a chunk. -/
inductive Verdict where
  | okCommand (cmd : Byte) (payload : Message)
  | okChunk (chunk : Message)
  | short
  | badLength
  | badChecksum
  deriving DecidableEq, Repr

/-- A ResponseEvent (30_encoding.md R74). -/
inductive ResponseEvent where
  | acknowledge
  | negativeAcknowledge
  | versionReport (major minor patch : Byte)
  | unrecognized (raw : Message)
  deriving DecidableEq, Repr

/-- The result an operation returns to its issuer (10_state.md R24). -/
inductive OpResult where
  | none
  | word (v : Word)
  | status (v : Word)
  | verdict (v : Verdict)
  | event (e : ResponseEvent)
  | fault (reason : FaultReason)
  deriving DecidableEq, Repr

/-- The host's four pending-response slots (60_exceptions.md R212): each set or clear, VersionReport with its triple and
Unrecognized with its bytes. Host state, not CRCF state. -/
structure Slots where
  acknowledge : Bool
  negativeAcknowledge : Bool
  versionReport : Option (Byte × Byte × Byte)
  unrecognized : Option Message
  deriving DecidableEq, Repr

/-- The host's error taxonomy (60_exceptions.md R207). None of these sets CRCF's `fault`. -/
inductive HostError where
  /-- "device explicitly rejected". -/
  | negativeAcknowledged
  /-- "no classified reply within 5s". -/
  | responseTimeout
  /-- "reply didn't match any known shape". -/
  | unrecognizedResponse
  /-- "terminal, after maxRetries attempts". -/
  | retriesExhausted
  deriving DecidableEq, Repr

/-- What the orchestrator reports to its caller at the end of a sequence (60_exceptions.md R208, R220 to R223). -/
inductive HostReport where
  | success
  | version (major minor patch : Byte)
  | failure (error : HostError)
  /-- CRCF faulted on the sequence's own framing operation, so nothing was sent (log 19). -/
  | framingFault
  deriving DecidableEq, Repr

/-- The four update sequences, with what their caller supplies (60_exceptions.md R220 to R223). -/
inductive Sequence where
  | getVersion
  | flashProgram (major minor patch : Byte) (startAddress imageSize : Word) (image : Message)
  | eraseFlash (startSector sectorCount : Byte)
  | jumpToAddress (targetAddress : Word) (persistChoice : Byte)
  deriving DecidableEq, Repr

/-- What is left of the running sequence. -/
structure Plan where
  /-- The framing operations of the packets still to be built, in order. -/
  remaining : List Instr
  /-- Whether RequestAcknowledge follows each packet (60_exceptions.md R221). -/
  poll : Bool
  /-- `maxRetries`, the attempts each packet gets (60_exceptions.md R215). -/
  limit : Nat
  /-- Whether RequestVersion and the wait for VersionReport end the sequence (60_exceptions.md R220). -/
  askVersion : Bool
  deriving DecidableEq, Repr

/-- Where the orchestration path stands (60_exceptions.md R214, R220 to R223). -/
inductive Phase where
  /-- No sequence is running. -/
  | idle
  /-- About to clear the slots and build the next packet, or to end. -/
  | frame
  /-- About to start an attempt: to send the packet, or to give up. -/
  | transmit
  /-- About to send RequestAcknowledge. -/
  | poll
  /-- In `wait(Acknowledge, T)`. -/
  | awaitAcknowledge
  /-- In `wait(NegativeAcknowledge, T)`. -/
  | awaitNegativeAcknowledge
  /-- In `wait(Unrecognized, T)`. -/
  | awaitUnrecognized
  /-- About to send RequestVersion. -/
  | requestVersion
  /-- In `wait(VersionReport, T)`. -/
  | awaitVersion
  deriving DecidableEq, Repr

/-- The host environment (60_exceptions.md sections 2 to 5): outside CRCF (00_scope.md R5), modelled beside it
(log 11). -/
structure HostEnv where
  /-- The pending-response slots (R212). -/
  slots : Slots
  /-- The sequences still to run, first one next (log 13). -/
  todo : List Sequence
  phase : Phase
  plan : Plan
  /-- The kept copy of the packet being sent (41_framer.md R123). -/
  packet : Message
  /-- The attempts the packet has left (R214). -/
  attemptsLeft : Nat
  /-- Every message published by the transport, oldest first (R211). -/
  sent : List Message
  /-- The errors the attempts met, oldest first (R207; log 17). -/
  errors : List HostError
  /-- The reports to the caller, oldest first. -/
  reports : List HostReport
  /-- Milliseconds spent in pacing delays and exhausted waits (R211, R216; log 16). -/
  elapsedMs : Nat
  deriving DecidableEq, Repr

/-- What can take effect next. Their order in `State.inputs` is the total order of all agents (20_memory.md R46,
60_exceptions.md R213; log 2, log 12). -/
inductive Input where
  /-- A port request, an inbound message, or an outbound wire code (log 1). -/
  | code (c : Code)
  /-- The transport publishes the head of `txq` (10_state.md R23). -/
  | publish
  /-- The block's reset input (70_reset_and_hazards.md R251). -/
  | reset
  /-- A caller hands the host a sequence. -/
  | start (q : Sequence)
  /-- The orchestration path takes its next action. -/
  | advance
  /-- `T` has passed in the running wait (60_exceptions.md R214). -/
  | timeout
  /-- The host program starts anew (70_reset_and_hazards.md R252). -/
  | restart
  deriving DecidableEq, Repr

/-- Reasons that stop the machine. There are none: every CRCF fault is a result after which "CRCF then accepts the next
operation as usual" (60_exceptions.md R200), and no operation is left without an effect (log 10). -/
inductive Fault where
  deriving DecidableEq, Repr

/-- Reasons a step has no meaning. -/
inductive Refusal where
  /-- An instruction without a meaning in this model. Raised by no arm of `exec`: every instruction has its meaning. Safe. -/
  | notModelled (mnemonic : String)
  deriving DecidableEq, Repr

/-- The state of the machine. -/
structure State where
  /-- The CRC register (10_state.md R20). -/
  crc : Word
  /-- The sticky fault flag (10_state.md R22). -/
  fault : BitVec 1
  /-- The first fault's reason code, `fault_reason` (10_state.md R22, 60_exceptions.md R201). -/
  faultReason : Nibble
  /-- The output message queue, head first (10_state.md R23). -/
  txq : List Message
  /-- The open parameter this CRCF was built with (00_scope.md R8, 10_state.md R25). Not state: no step changes it
  (log 4). -/
  config : Config
  /-- What takes effect next, first one next (log 2). The model's own field. -/
  inputs : List Input
  /-- The results returned so far, oldest first (10_state.md R24; log 3). The model's own field. -/
  results : List OpResult
  /-- The host environment (log 11). -/
  host : HostEnv
  deriving DecidableEq, Repr

/-- All four slots clear (60_exceptions.md R212). -/
def Slots.clear : Slots :=
  { acknowledge := false, negativeAcknowledge := false, versionReport := .none, unrecognized := .none }

/-- No packet left to build. -/
def Plan.empty : Plan := { remaining := [], poll := false, limit := 0, askVersion := false }

/-- The host at its start: "all four pending slots clear and no request outstanding" (70_reset_and_hazards.md R252); the
fields of the model's own are empty (log 11). -/
def HostEnv.start : HostEnv :=
  { slots := Slots.clear, todo := [], phase := .idle, plan := Plan.empty, packet := [], attemptsLeft := 0,
    sent := [], errors := [], reports := [], elapsedMs := 0 }

/-- The state right after reset (70_reset_and_hazards.md R250): `crc = INIT`, no fault, `txq` empty; the parameter at its
default (00_scope.md R8; log 4); nothing issued and nothing returned yet (log 2, log 3). -/
def State.reset : State :=
  { crc := Config.init, fault := 0#1, faultReason := 0#4, txq := [], config := Config.default,
    inputs := [], results := [], host := HostEnv.start }

end Sys2Proof.Machine
end

