-- ==== Sys2Proof/Machine/Flags.lean ====
section
/-! DEFINITION. The status of CRCF (10_state.md R22): its codes, how a fault sets it, and the status word; and the codes of verdicts and events (30_encoding.md R72 to R74). -/

namespace Sys2Proof.Machine

/-- `code(reason)` (60_exceptions.md R201). -/
def FaultReason.code : FaultReason → Nibble
  | .illegalOp => 1#4
  | .lengthOverflow => 2#4
  | .badChunk => 3#4
  | .badControl => 4#4
  | .badPersist => 5#4

/-- The verdict codes (30_encoding.md R73). -/
def Verdict.code : Verdict → Nat
  | .okCommand _ _ => 0
  | .okChunk _ => 0
  | .short => 1
  | .badLength => 2
  | .badChecksum => 3

/-- The event codes (30_encoding.md R74). -/
def ResponseEvent.code : ResponseEvent → Nat
  | .acknowledge => 0
  | .negativeAcknowledge => 1
  | .versionReport _ _ _ => 2
  | .unrecognized _ => 3

/-- The reason field after a fault: the first reason is kept (10_state.md R22, 60_exceptions.md R200). -/
def keepFirstReason (old : Nibble) (reason : FaultReason) : Nibble :=
  if old = 0#4 then reason.code else old

/-- A fault's effect on the status (60_exceptions.md R200, item 4). -/
def setFault (reason : FaultReason) (s : State) : State :=
  { s with fault := 1#1, faultReason := keepFirstReason s.faultReason reason }

/-- `zext32(fault_reason) << 4 | zext32(fault)` (30_encoding.md R72). -/
def statusWord (s : State) : Word := (s.faultReason.setWidth 32 <<< 4) ||| s.fault.setWidth 32

end Sys2Proof.Machine
end

