-- ==== Sys2Proof/Machine/Ops.lean ====
section
/-! DEFINITION. The named operations every meaning is written with (00_scope.md R14): returning a result, emitting a message, raising a fault; and what the outside does to the block: publishing, reset. -/

namespace Sys2Proof.Machine

/-- What a step answers. -/
abbrev Answer := Host.Outcome State Fault Refusal

/-- `return r`: the operation ends with its one result (10_state.md R24, 00_scope.md R14). -/
def complete (r : OpResult) (s : State) : Answer := .next { s with results := s.results ++ [r] }

/-- `crc <- v` (00_scope.md R14). -/
def setCrc (v : Word) (s : State) : State := { s with crc := v }

/-- `Emit(m)`: one message at the tail of `txq` (10_state.md R23, 00_scope.md R14). -/
def emit (m : Message) (s : State) : State := { s with txq := s.txq ++ [m] }

/-- `raise Fault(reason)`, the one way a fault is taken (60_exceptions.md R200): nothing is emitted, `crc` stays, the status
is set, `Fault(reason)` is returned, and CRCF goes on. There is no handler, no saved register and no return (R205). -/
def raiseFault (reason : FaultReason) (s : State) : Answer := complete (.fault reason) (setFault reason s)

/-- The end of a framing operation that passed its checks: `crc` holds the checksum, the message is emitted, the result is
`None` (41_framer.md R120). -/
def emitPacket (crc : Word) (m : Message) (s : State) : Answer := complete .none (emit m (setCrc crc s))

/-- The host environment changes. -/
def setHost (h : HostEnv) (s : State) : State := { s with host := h }

/-- The inputs still to take effect. -/
def setInputs (l : List Input) (s : State) : State := { s with inputs := l }

/-- The transport publishes `l`, with one send and its pacing delay for each message (60_exceptions.md R211). -/
def HostEnv.publish (l : List Message) (h : HostEnv) : HostEnv :=
  { h with sent := h.sent ++ l, elapsedMs := h.elapsedMs + Config.paceMs * l.length }

/-- The transport takes the head of `txq` and publishes it whole (10_state.md R23, 20_memory.md R42). An empty queue has
nothing to publish. -/
def publishHead (s : State) : State :=
  match s.txq with
  | [] => s
  | m :: rest => { s with txq := rest, host := s.host.publish [m] }

/-- The transport publishes all of `txq`, in order (20_memory.md R46; log 18). -/
def publishAll (s : State) : State := { s with txq := [], host := s.host.publish s.txq }

/-- The block's reset (70_reset_and_hazards.md R250, R251): every piece of CRCF state at its reset value, messages in `txq`
discarded. The parameter stays (R250); what is outside the block stays (log 14). -/
def resetBlock (s : State) : State :=
  { s with crc := Config.init, fault := 0#1, faultReason := 0#4, txq := [] }

end Sys2Proof.Machine
end

