-- ==== Sys2Proof/Machine/Engine.lean ====
section
/-! DEFINITION. The CRC engine's operations and STATUS_READ (40_crc_engine.md R110 to R114), and the reserved operation (60_exceptions.md R202). -/

namespace Sys2Proof.Machine

/-- CRC_INIT (40_crc_engine.md R110). -/
def execCrcInit (s : State) : Answer := complete .none (setCrc Config.init s)

/-- CRC_FEED (40_crc_engine.md R111). -/
def execCrcFeed (b : Byte) (s : State) : Answer :=
  complete .none (setCrc (crcRaw s.crc (expandByte b)) s)

/-- CRC_READ (40_crc_engine.md R112). -/
def execCrcRead (s : State) : Answer := complete (.word s.crc) s

/-- The loop of CHECKSUM: `for b in data: crc <- crc_word(crc, zext32(b))` (40_crc_engine.md R113). -/
def feedWords (crc : Word) (data : Message) : Word := data.foldl (fun c b => crcWord c (zext32 b)) crc

/-- CHECKSUM (40_crc_engine.md R113). -/
def execChecksum (data : Message) (s : State) : Answer :=
  let crc := feedWords Config.init data
  complete (.word crc) (setCrc crc s)

/-- STATUS_READ (40_crc_engine.md R114, 30_encoding.md R72). -/
def execStatusRead (s : State) : Answer := complete (.status (statusWord s)) s

/-- The reserved op code `0xF` (60_exceptions.md R202). -/
def execReservedF (s : State) : Answer := raiseFault .illegalOp s

end Sys2Proof.Machine
end

