-- ==== Sys2Proof/Machine/Deframer.lean ====
section
/-! DEFINITION. The deframer and the response classifier (42_deframer.md R150 to R162). None of these operations faults or writes the status (R153). -/

namespace Sys2Proof.Machine

/-- The verdict of a packet check, `crc` left holding the checksum where one was computed (42_deframer.md R150, R155); `ok`
is the verdict when every test passes. -/
def answerCheck (check : PacketCheck) (ok : Verdict) (s : State) : Answer :=
  match check with
  | .short => complete (.verdict .short) s
  | .badLength => complete (.verdict .badLength) s
  | .badChecksum crc => complete (.verdict .badChecksum) (setCrc crc s)
  | .ok crc => complete (.verdict ok) (setCrc crc s)

/-- DEFRAME_CMD (42_deframer.md R150). The command byte is not checked (R154). -/
def execDeframeCmd (m : Message) (s : State) : Answer :=
  answerCheck (checkCommand m) (.okCommand (byteAt m 1) (receivedPayload m)) s

/-- DEFRAME_CHUNK (42_deframer.md R155). -/
def execDeframeChunk (m : Message) (s : State) : Answer :=
  answerCheck (checkChunk s.config m) (.okChunk (receivedChunk m)) s

/-- `classify(raw)` (42_deframer.md R160, R162). No checksum is verified (R161). -/
def classify (m : Message) : ResponseEvent :=
  if m = [0xFF#8] then .acknowledge
  else if m = [0x01#8] then .negativeAcknowledge
  else if m.length = 3 then .versionReport (byteAt m 0) (byteAt m 1) (byteAt m 2)
  else .unrecognized m

/-- CLASSIFY (42_deframer.md R160). DESIGN CHOICE, unsafe: a CLASSIFY issued as a port request returns its event and sets no
slot of the host; only a delivered message does, as 60_exceptions.md R212 has it (log 23). -/
def execClassify (m : Message) (s : State) : Answer := complete (.event (classify m)) s

end Sys2Proof.Machine
end

