-- ==== Sys2Proof/Machine/Framer.lean ====
section
/-! DEFINITION. The packet framer's operations (41_framer.md R120 to R133) and the partition of an image into chunks (R125). -/

namespace Sys2Proof.Machine

/-- `FRAME_CMD(cmd, P)`, which the command builders share (41_framer.md R121). -/
def frameCommand (cmd : Byte) (payload : Message) (s : State) : Answer :=
  if payload.length > Config.payloadMax then raiseFault .lengthOverflow s
  else emitPacket (checksum (commandCovered cmd payload)) (commandPacket cmd payload) s

/-- The framing of one chunk (41_framer.md R124). -/
def frameOneChunk (chunk : Message) (s : State) : Answer :=
  if chunk.length = 0 ∨ chunk.length > Config.chunkMax then raiseFault .badChunk s
  else emitPacket (checksum (chunkCovered s.config chunk)) (chunkPacket s.config chunk) s

/-- The emission of a bare control byte (41_framer.md R126). `crc` is not touched. -/
def emitControl (control : Byte) (s : State) : Answer :=
  if control ≠ 0x04#8 ∧ control ≠ 0x05#8 then raiseFault .badControl s
  else complete .none (emit [control] s)

/-- The framing of a JumpToAddress packet, its persist check first (41_framer.md R133, R134). -/
def frameJumpPacket (targetAddress : Word) (persistChoice : Byte) (s : State) : Answer :=
  match forcedPersist targetAddress persistChoice with
  | .none => raiseFault .badPersist s
  | .some p => frameCommand 0x03#8 (jumpPayload targetAddress p) s

/-- FRAME_CMD (41_framer.md R121). -/
def execFrameCmd (command : Byte) (payload : Message) (s : State) : Answer := frameCommand command payload s

/-- FRAME_CHUNK (41_framer.md R124). -/
def execFrameChunk (chunk : Message) (s : State) : Answer := frameOneChunk chunk s

/-- EMIT_CTRL (41_framer.md R126). -/
def execEmitCtrl (control : Byte) (s : State) : Answer := emitControl control s

/-- FRAME_GETVERSION (41_framer.md R130). -/
def execFrameGetversion (s : State) : Answer := frameCommand 0x00#8 [] s

/-- FRAME_ERASE (41_framer.md R131). -/
def execFrameErase (startSector sectorCount : Byte) (s : State) : Answer :=
  frameCommand 0x01#8 (erasePayload startSector sectorCount) s

/-- FRAME_PROGRAM_HDR (41_framer.md R132). -/
def execFrameProgramHdr (major minor patch : Byte) (startAddress imageSize : Word) (s : State) : Answer :=
  frameCommand 0x02#8 (programPayload major minor patch startAddress imageSize) s

/-- FRAME_JUMP (41_framer.md R133). -/
def execFrameJump (targetAddress : Word) (persistChoice : Byte) (s : State) : Answer :=
  frameJumpPacket targetAddress persistChoice s

/-- `ceil(N / 252)`, the number of chunks (41_framer.md R125). -/
def chunkCount (n : Nat) : Nat := (n + (Config.chunkMax - 1)) / Config.chunkMax

/-- `chunks(image)`: chunk `i` is `image[252*i .. min(252*(i+1), N))` (41_framer.md R125). -/
def chunks (image : Message) : List Message :=
  (List.range (chunkCount image.length)).map fun i =>
    slice image (Config.chunkMax * i) (min (Config.chunkMax * (i + 1)) image.length)

end Sys2Proof.Machine
end

