-- ==== Sys2Proof/Machine/Wire.lean ====
section
/-! DEFINITION. The wire codes (30_encoding.md section 1). An outbound code is produced by the framing rule its row of spec/opcode_table.json names; an inbound response is delivered: classified, and its slot set (60_exceptions.md R212). See log 1. -/

namespace Sys2Proof.Machine

/-- The slot of an event's variant is set; VersionReport keeps the triple, Unrecognized the bytes (60_exceptions.md R212;
the latest of each, log 9). -/
def Slots.set (e : ResponseEvent) (l : Slots) : Slots :=
  match e with
  | .acknowledge => { l with acknowledge := true }
  | .negativeAcknowledge => { l with negativeAcknowledge := true }
  | .versionReport x y z => { l with versionReport := .some (x, y, z) }
  | .unrecognized m => { l with unrecognized := .some m }

/-- The delivery path: `e = CLASSIFY(m)`, then the slot of `e`'s variant (60_exceptions.md R212). -/
def deliver (m : Message) (s : State) : Answer :=
  complete (.event (classify m)) (setHost { s.host with slots := s.host.slots.set (classify m) } s)

/-- Outbound GetVersion packet (41_framer.md R130). -/
def execPktGetversion (s : State) : Answer := frameCommand 0x00#8 [] s

/-- Outbound EraseFlash packet (41_framer.md R131). -/
def execPktEraseflash (startSector sectorCount : Byte) (s : State) : Answer :=
  frameCommand 0x01#8 (erasePayload startSector sectorCount) s

/-- Outbound FlashProgram header packet (41_framer.md R132). -/
def execPktFlashprogram (major minor patch : Byte) (startAddress imageSize : Word) (s : State) : Answer :=
  frameCommand 0x02#8 (programPayload major minor patch startAddress imageSize) s

/-- Outbound JumpToAddress packet (41_framer.md R133). -/
def execPktJumptoaddress (targetAddress : Word) (persistChoice : Byte) (s : State) : Answer :=
  frameJumpPacket targetAddress persistChoice s

/-- Outbound packet of a command byte that is no CommandKind, framed bit-exactly (30_encoding.md R69, 41_framer.md R121). -/
def execPktCommandOther (command : Byte) (payload : Message) (s : State) : Answer :=
  frameCommand command payload s

/-- Outbound chunk packet (41_framer.md R124). -/
def execPktChunk (chunk : Message) (s : State) : Answer := frameOneChunk chunk s

/-- Outbound RequestAcknowledge (41_framer.md R126, 30_encoding.md R65). -/
def execCtrlRequestAcknowledge (s : State) : Answer := emitControl 0x04#8 s

/-- Outbound RequestVersion (41_framer.md R126, 30_encoding.md R65). -/
def execCtrlRequestVersion (s : State) : Answer := emitControl 0x05#8 s

/-- Inbound `[0xFF]` (42_deframer.md R160). -/
def execRspAcknowledge (s : State) : Answer := deliver [0xFF#8] s

/-- Inbound `[0x01]` (42_deframer.md R160). -/
def execRspNegativeAcknowledge (s : State) : Answer := deliver [0x01#8] s

/-- Inbound message of three bytes (42_deframer.md R160). -/
def execRspVersionReport (major minor patch : Byte) (s : State) : Answer := deliver [major, minor, patch] s

/-- Any other inbound message (42_deframer.md R160). -/
def execRspUnrecognized (raw : Message) (s : State) : Answer := deliver raw s

end Sys2Proof.Machine
end

