-- ==== Sys2Proof/Machine/Dispatch.lean ====
section
/-! DEFINITION. The dispatch of an instruction to its meaning. -/

namespace Sys2Proof.Machine

-- One arm per constructor, in the order of spec/opcode_table.json.
def exec (i : Instr) (s : State) : Host.Outcome State Fault Refusal :=
  match i with
  | .crcInit => Sys2Proof.Machine.execCrcInit s
  | .crcFeed b => Sys2Proof.Machine.execCrcFeed b s
  | .crcRead => Sys2Proof.Machine.execCrcRead s
  | .checksum data => Sys2Proof.Machine.execChecksum data s
  | .frameCmd command payload => Sys2Proof.Machine.execFrameCmd command payload s
  | .frameChunk chunk => Sys2Proof.Machine.execFrameChunk chunk s
  | .emitCtrl control => Sys2Proof.Machine.execEmitCtrl control s
  | .frameGetversion => Sys2Proof.Machine.execFrameGetversion s
  | .frameErase startSector sectorCount => Sys2Proof.Machine.execFrameErase startSector sectorCount s
  | .frameProgramHdr major minor patch startAddress imageSize => Sys2Proof.Machine.execFrameProgramHdr major minor patch startAddress imageSize s
  | .frameJump targetAddress persistChoice => Sys2Proof.Machine.execFrameJump targetAddress persistChoice s
  | .deframeCmd message => Sys2Proof.Machine.execDeframeCmd message s
  | .deframeChunk message => Sys2Proof.Machine.execDeframeChunk message s
  | .classify message => Sys2Proof.Machine.execClassify message s
  | .statusRead => Sys2Proof.Machine.execStatusRead s
  | .reservedF => Sys2Proof.Machine.execReservedF s
  | .pktGetversion => Sys2Proof.Machine.execPktGetversion s
  | .pktEraseflash startSector sectorCount => Sys2Proof.Machine.execPktEraseflash startSector sectorCount s
  | .pktFlashprogram major minor patch startAddress imageSize => Sys2Proof.Machine.execPktFlashprogram major minor patch startAddress imageSize s
  | .pktJumptoaddress targetAddress persistChoice => Sys2Proof.Machine.execPktJumptoaddress targetAddress persistChoice s
  | .pktCommandOther command payload => Sys2Proof.Machine.execPktCommandOther command payload s
  | .pktChunk chunk => Sys2Proof.Machine.execPktChunk chunk s
  | .ctrlRequestAcknowledge => Sys2Proof.Machine.execCtrlRequestAcknowledge s
  | .ctrlRequestVersion => Sys2Proof.Machine.execCtrlRequestVersion s
  | .rspAcknowledge => Sys2Proof.Machine.execRspAcknowledge s
  | .rspNegativeAcknowledge => Sys2Proof.Machine.execRspNegativeAcknowledge s
  | .rspVersionReport major minor patch => Sys2Proof.Machine.execRspVersionReport major minor patch s
  | .rspUnrecognized raw => Sys2Proof.Machine.execRspUnrecognized raw s

end Sys2Proof.Machine
end

