-- ==== Sys2Proof/Machine/HostEnv.lean ====
section
/-! DEFINITION. The host environment that drives CRCF (60_exceptions.md sections 2 to 5, outside the block by 00_scope.md R5): the retry executor (R214), the four sequences (R220 to R223), their waits and their reports, as actions of one orchestration path. See log 11. -/

namespace Sys2Proof.Machine

/-- A sequence's packets, in order, and how each is sent: RequestAcknowledge after it or not, its attempt limit (R215),
the version wait at the end (R220 to R223). -/
def planOf : Sequence → Plan
  | .getVersion =>
    { remaining := [.frameGetversion], poll := false, limit := Config.maxAttemptsHandshake, askVersion := true }
  | .flashProgram major minor patch startAddress imageSize image =>
    { remaining := .frameProgramHdr major minor patch startAddress imageSize :: (chunks image).map .frameChunk,
      poll := true, limit := Config.maxAttemptsXfer, askVersion := false }
  | .eraseFlash startSector sectorCount =>
    { remaining := [.frameErase startSector sectorCount], poll := false, limit := Config.maxAttemptsCmd,
      askVersion := false }
  | .jumpToAddress targetAddress persistChoice =>
    { remaining := [.frameJump targetAddress persistChoice], poll := false, limit := Config.maxAttemptsCmd,
      askVersion := false }

/-- The caller's sequence joins those still to run (log 13). -/
def startSequence (q : Sequence) (s : State) : State := setHost { s.host with todo := s.host.todo ++ [q] } s

/-- A new run of the host program: all four slots clear, no request outstanding (70_reset_and_hazards.md R252); the records
of what was sent and reported stay (log 15). -/
def restartHost (s : State) : State :=
  setHost { HostEnv.start with
    sent := s.host.sent, errors := s.host.errors, reports := s.host.reports, elapsedMs := s.host.elapsedMs } s

/-- The orchestration path goes to `p`. -/
def HostEnv.goto (p : Phase) (h : HostEnv) : HostEnv := { h with phase := p }

/-- An attempt met `e` (R207). -/
def HostEnv.note (e : HostError) (h : HostEnv) : HostEnv := { h with errors := h.errors ++ [e] }

/-- The sequence ends with report `r` (R208, R220 to R223). -/
def HostEnv.finish (r : HostReport) (h : HostEnv) : HostEnv :=
  { h with reports := h.reports ++ [r], phase := .idle, plan := Plan.empty }

/-- The sequence ends in the terminal error `e` (R208). -/
def HostEnv.fail (e : HostError) (h : HostEnv) : HostEnv := (h.note e).finish (.failure e)

/-- The host issues an operation to CRCF and goes on in the state after it (R210). -/
def issue (i : Instr) (s : State) (andThen : State → State) : Answer :=
  match exec i s with
  | .next t => .next (andThen t)
  | .fault r => .fault r
  | .refused r => .refused r

/-- Idle: the next sequence begins (R213). -/
def beginSequence (s : State) : State :=
  match s.host.todo with
  | [] => s
  | q :: rest => setHost { s.host with todo := rest, plan := planOf q, phase := .frame } s

/-- The host keeps the message that `op` emitted after the `queued` ones (41_framer.md R123) and turns to its first attempt;
where CRCF faulted on the operation there is none, and the sequence ends (log 19). -/
def keepPacket (queued : Nat) (rest : List Instr) (s : State) : State :=
  match s.txq.drop queued with
  | [m] =>
    setHost { s.host with
      packet := m, attemptsLeft := s.host.plan.limit, plan := { s.host.plan with remaining := rest },
      phase := .transmit } s
  | _ => setHost (s.host.finish .framingFault) s

/-- Before each new request all four slots are cleared, then its packet is built (R212, R220 to R223); after the last packet
GetVersion asks for the version (R220) and the others report success. -/
def frameNext (s : State) : Answer :=
  match s.host.plan.remaining with
  | [] =>
    if s.host.plan.askVersion then .next (setHost (s.host.goto .requestVersion) s)
    else .next (setHost (s.host.finish .success) s)
  | op :: rest =>
    issue op (setHost { s.host with slots := Slots.clear } s) (keepPacket s.txq.length rest)

/-- What `send` passes to the transport: on the first attempt the queue that holds the packet, on a later one the kept copy,
byte for byte (41_framer.md R123, R211; log 18). DESIGN CHOICE, unsafe: where the block was reset since the packet was
built, so that `txq` no longer holds it (70_reset_and_hazards.md R251), the first attempt sends nothing and is used up all
the same (log 24). -/
def sendPacket (s : State) : State :=
  if s.host.attemptsLeft = s.host.plan.limit then publishAll s
  else setHost (s.host.publish [s.host.packet]) s

/-- An attempt starts with its send, or, with none left, the sequence ends in RetriesExhausted and sends nothing more
(R214, R221). -/
def transmit (s : State) : State :=
  if s.host.attemptsLeft = 0 then setHost (s.host.fail .retriesExhausted) s
  else
    let t := sendPacket s
    setHost { t.host with
      attemptsLeft := t.host.attemptsLeft - 1,
      phase := if t.host.plan.poll then .poll else .awaitAcknowledge } t

/-- EMIT_CTRL `c`, its message sent, then on to `p` (R220, R221). -/
def sendControl (c : Byte) (p : Phase) (s : State) : Answer :=
  issue (.emitCtrl c) s fun t => setHost ((publishAll t).host.goto p) (publishAll t)

/-- The running wait returns at once where its slot is set, and the slot it observed is cleared (R212, R214): `none` where
no wait is running or its slot is clear. -/
def HostEnv.waitReturns (h : HostEnv) : Option HostEnv :=
  match h.phase with
  | .awaitAcknowledge =>
    if h.slots.acknowledge then
      .some ({ h with slots := { h.slots with acknowledge := false } }.goto .frame)
    else .none
  | .awaitNegativeAcknowledge =>
    if h.slots.negativeAcknowledge then
      .some (({ h with slots := { h.slots with negativeAcknowledge := false } }.note .negativeAcknowledged).goto
        .transmit)
    else .none
  | .awaitUnrecognized =>
    match h.slots.unrecognized with
    | .some _ =>
      .some (({ h with slots := { h.slots with unrecognized := .none } }.note .unrecognizedResponse).goto .transmit)
    | .none => .none
  | .awaitVersion =>
    match h.slots.versionReport with
    | .some (x, y, z) => .some ({ h with slots := { h.slots with versionReport := .none } }.finish (.version x y z))
    | .none => .none
  | .idle => .none
  | .frame => .none
  | .transmit => .none
  | .poll => .none
  | .requestVersion => .none

/-- `T` passes with the awaited slot clear: the next of the three sequential waits, then the next attempt (R214, R216); for
the version wait, timeout failure (R220). Without a running wait nothing times out (log 20). -/
def HostEnv.waitExhausted (h : HostEnv) : HostEnv :=
  let late : HostEnv := { h with elapsedMs := h.elapsedMs + Config.responseTimeoutMs }
  match h.phase with
  | .awaitAcknowledge => late.goto .awaitNegativeAcknowledge
  | .awaitNegativeAcknowledge => late.goto .awaitUnrecognized
  | .awaitUnrecognized => (late.note .responseTimeout).goto .transmit
  | .awaitVersion => late.fail .responseTimeout
  | .idle => h
  | .frame => h
  | .transmit => h
  | .poll => h
  | .requestVersion => h

/-- The orchestration path's next action (R214, R220 to R223). A wait whose slot is clear goes on waiting. -/
def hostAdvance (s : State) : Answer :=
  match s.host.phase with
  | .idle => .next (beginSequence s)
  | .frame => frameNext s
  | .transmit => .next (transmit s)
  | .poll => sendControl 0x04#8 .awaitAcknowledge s
  | .requestVersion => sendControl 0x05#8 .awaitVersion s
  | .awaitAcknowledge => .next (setHost (s.host.waitReturns.getD s.host) s)
  | .awaitNegativeAcknowledge => .next (setHost (s.host.waitReturns.getD s.host) s)
  | .awaitUnrecognized => .next (setHost (s.host.waitReturns.getD s.host) s)
  | .awaitVersion => .next (setHost (s.host.waitReturns.getD s.host) s)

/-- The running wait's `T` has passed: it returns true where its slot is set, false where it is not (R214; log 20). -/
def hostTimeout (s : State) : State := setHost (s.host.waitReturns.getD s.host.waitExhausted) s

end Sys2Proof.Machine
end

