-- ==== Sys2Proof/Machine/Inputs.lean ====
section
/-! DEFINITION. What each input does, and how the next one is taken (20_memory.md R46; log 2). -/

namespace Sys2Proof.Machine

/-- A message named as a wire code of its format that is none (log 8). A packet that is short, of the wrong length or of the
wrong checksum is answered with a verdict, never a fault (93_implementation_defined.md X9, 42_deframer.md R150, R153, R155);
what is no control byte raises BadControl (X5, 41_framer.md R126). Every response is a code (30_encoding.md R69), so the
last line is never reached. -/
def runRejected (format : WireFormat) (m : Message) (s : State) : Answer :=
  match format with
  | .command => execDeframeCmd m s
  | .chunk => execDeframeChunk m s
  | .control => raiseFault .badControl s
  | .response => deliver m s

/-- A coded instruction: it is decoded first (60_exceptions.md R203), then executed. -/
def runCode (c : Code) (s : State) : Answer :=
  match c with
  | .request r => exec (decodeRequest r) s
  | .wire format m =>
    match decodeWire s.config format m with
    | .ok i => exec i s
    | .error _ => runRejected format m s

/-- What an input does, itself already taken from `inputs`. -/
def runInput (i : Input) (s : State) : Answer :=
  match i with
  | .code c => runCode c s
  | .publish => .next (publishHead s)
  | .reset => .next (resetBlock s)
  | .start q => .next (startSequence q s)
  | .advance => hostAdvance s
  | .timeout => .next (hostTimeout s)
  | .restart => .next (restartHost s)

/-- The first input takes effect (20_memory.md R46). With none, CRCF waits and nothing changes (log 2). -/
def takeInput (s : State) : Answer :=
  match s.inputs with
  | [] => .next s
  | i :: rest => runInput i (setInputs rest s)

/-- The same state with one more input, to take effect next. -/
def pushInput (i : Input) (s : State) : State := setInputs (i :: s.inputs) s

end Sys2Proof.Machine
end

