-- ==== Sys2Proof/Machine/Step.lean ====
section
/-! DEFINITION. One step of the machine, and where it takes its next instruction from. -/

namespace Sys2Proof.Machine

/-- One step: the next input takes effect, whole and alone (00_scope.md R3, 20_memory.md R46). -/
def step (s : State) : Host.Outcome State Fault Refusal := takeInput s

/-- `s` with the table word `w` of `nbits` bits placed where the next step takes its instruction from: as the first input
(log 2, log 7). -/
def State.withFetchWord (s : State) (nbits w : Nat) : State := pushInput (.code (tableCode nbits w)) s

end Sys2Proof.Machine
end

