-- ==== Sys2Proof/Machine/Assembly.lean ====
section
/-! DEFINITION. The textual form of an operation (30_encoding.md R76), printed. The wire codes and the reserved op code have none (log 21). -/

namespace Sys2Proof.Machine

/-- A hexadecimal digit. -/
def hexDigit (n : Nat) : Char :=
  match n with
  | 0 => '0' | 1 => '1' | 2 => '2' | 3 => '3' | 4 => '4' | 5 => '5' | 6 => '6' | 7 => '7'
  | 8 => '8' | 9 => '9' | 10 => 'A' | 11 => 'B' | 12 => 'C' | 13 => 'D' | 14 => 'E' | _ => 'F'

/-- The low `k` hexadecimal digits of `n`, most significant first. -/
def hexDigits : Nat → Nat → List Char
  | 0, _ => []
  | k + 1, n => hexDigits k (n / 16) ++ [hexDigit (n % 16)]

/-- A byte operand, `0xNN`. -/
def byteText (b : Byte) : List Char := '0' :: 'x' :: hexDigits 2 b.toNat

/-- A word operand, `0xNNNNNNNN`. -/
def wordText (w : Word) : List Char := '0' :: 'x' :: hexDigits 8 w.toNat

/-- A byte sequence, `[NN NN ...]`, first byte first. -/
def bytesText (m : Message) : List Char :=
  '[' :: (List.intercalate [' '] (m.map fun b => hexDigits 2 b.toNat)) ++ [']']

/-- The mnemonic, then the operands separated by commas. -/
def lineText (mnemonic : String) (operands : List (List Char)) : Option String :=
  match operands with
  | [] => .some mnemonic
  | _ => .some (String.ofList (mnemonic.toList ++ ' ' :: List.intercalate [',', ' '] operands))

/-- The line of an operation (30_encoding.md R76). -/
def assembly : Instr → Option String
  | .crcInit => lineText "CRC_INIT" []
  | .crcFeed b => lineText "CRC_FEED" [byteText b]
  | .crcRead => lineText "CRC_READ" []
  | .checksum data => lineText "CHECKSUM" [bytesText data]
  | .frameCmd c p => lineText "FRAME_CMD" [byteText c, bytesText p]
  | .frameChunk k => lineText "FRAME_CHUNK" [bytesText k]
  | .emitCtrl c => lineText "EMIT_CTRL" [byteText c]
  | .frameGetversion => lineText "FRAME_GETVERSION" []
  | .frameErase s n => lineText "FRAME_ERASE" [byteText s, byteText n]
  | .frameProgramHdr x y z a s =>
    lineText "FRAME_PROGRAM_HDR" [byteText x, byteText y, byteText z, wordText a, wordText s]
  | .frameJump a p => lineText "FRAME_JUMP" [wordText a, byteText p]
  | .deframeCmd m => lineText "DEFRAME_CMD" [bytesText m]
  | .deframeChunk m => lineText "DEFRAME_CHUNK" [bytesText m]
  | .classify m => lineText "CLASSIFY" [bytesText m]
  | .statusRead => lineText "STATUS_READ" []
  | .reservedF => .none
  | .pktGetversion => .none
  | .pktEraseflash _ _ => .none
  | .pktFlashprogram _ _ _ _ _ => .none
  | .pktJumptoaddress _ _ => .none
  | .pktCommandOther _ _ => .none
  | .pktChunk _ => .none
  | .ctrlRequestAcknowledge => .none
  | .ctrlRequestVersion => .none
  | .rspAcknowledge => .none
  | .rspNegativeAcknowledge => .none
  | .rspVersionReport _ _ _ => .none
  | .rspUnrecognized _ => .none

end Sys2Proof.Machine
end

