-- ==== Sys2Proof/Safety.lean ====
section
/-! DEFINITION. The terms the statements are made in: the wire messages of 30_encoding.md, the consistent status of 10_state.md R22, the invariant of the machine, a fault-free run (60_exceptions.md R200), and what the block's part of State is (10_state.md R26). -/

namespace Sys2Proof.Machine

/-- A command packet, byte for byte (30_encoding.md R61, R63). -/
def IsCommandPacket (m : Message) : Prop :=
  ∃ (cmd : Byte) (p : Message), p.length ≤ 254 ∧
    m = [BitVec.ofNat 8 (1 + p.length), cmd] ++ p ++ be32 (checksum ([BitVec.ofNat 8 (1 + p.length), cmd] ++ p))

/-- A chunk packet, byte for byte (30_encoding.md R62, R64). -/
def IsChunkPacket (config : Config) (m : Message) : Prop :=
  ∃ k : Message, 1 ≤ k.length ∧ k.length ≤ 252 ∧
    m = [BitVec.ofNat 8 k.length] ++ k ++ be32 (checksum
      (if config.chunkCrcIncludesLength then [BitVec.ofNat 8 k.length] ++ k else k))

/-- A control byte (30_encoding.md R65). -/
def IsControlByte (m : Message) : Prop := m = [0x04#8] ∨ m = [0x05#8]

/-- An outbound message (30_encoding.md R60). -/
def IsOutbound (config : Config) (m : Message) : Prop :=
  IsCommandPacket m ∨ IsChunkPacket config m ∨ IsControlByte m

/-- The status agrees with itself: no reason without a fault, no fault without a reason, and no unused reason code
(10_state.md R22, 60_exceptions.md R201). -/
def StatusConsistent (s : State) : Prop :=
  (s.fault = 0#1 ↔ s.faultReason = 0#4) ∧ s.faultReason.toNat ≤ 5

/-- The orchestration path holds a packet that it may send. -/
def Phase.holdsPacket : Phase → Bool
  | .idle => false
  | .frame => false
  | .transmit => true
  | .poll => true
  | .awaitAcknowledge => true
  | .awaitNegativeAcknowledge => true
  | .awaitUnrecognized => true
  | .requestVersion => false
  | .awaitVersion => false

/-- The invariant of the machine: the status is consistent, and everything emitted, published or kept to be sent is an
outbound message of the wire format (41_framer.md R122). -/
def State.Inv (s : State) : Prop :=
  StatusConsistent s ∧
  (∀ m ∈ s.txq, IsOutbound s.config m) ∧
  (∀ m ∈ s.host.sent, IsOutbound s.config m) ∧
  (s.host.phase.holdsPacket = true → IsOutbound s.config s.host.packet)

/-- The premise of a claim that a program emits its packets: no fault since reset (60_exceptions.md R200). -/
def FaultFree (s : State) : Prop := s.fault = 0#1

/-- Two states with the same CRCF state (10_state.md R26). -/
def SameBlock (s t : State) : Prop :=
  s.crc = t.crc ∧ s.fault = t.fault ∧ s.faultReason = t.faultReason ∧ s.txq = t.txq

/-- The state after a framing operation that passed its checks: its checksum in `crc`, its message at the tail of `txq`, the
result `None`, all else as before (41_framer.md R120). -/
def State.emitted (s : State) (crc : Word) (m : Message) : State :=
  { s with crc := crc, txq := s.txq ++ [m], results := s.results ++ [.none] }

/-- The state after an operation that leaves `crc` as given and answers `r`, all else as before. -/
def State.answered (s : State) (crc : Word) (r : OpResult) : State :=
  { s with crc := crc, results := s.results ++ [r] }

/-- The state after a fault with this reason and code: the status set, the first reason kept, `Fault(reason)` returned, all
else as before (60_exceptions.md R200). -/
def State.faulted (s : State) (reason : FaultReason) (code : Nibble) : State :=
  { s with
    fault := 1#1,
    faultReason := if s.faultReason = 0#4 then code else s.faultReason,
    results := s.results ++ [.fault reason] }

/-- A framing operation or an outbound wire code: what may append to `txq` (10_state.md R23, 30_encoding.md R60). -/
def IsFraming : Instr → Bool
  | .frameCmd _ _ => true
  | .frameChunk _ => true
  | .emitCtrl _ => true
  | .frameGetversion => true
  | .frameErase _ _ => true
  | .frameProgramHdr _ _ _ _ _ => true
  | .frameJump _ _ => true
  | .pktGetversion => true
  | .pktEraseflash _ _ => true
  | .pktFlashprogram _ _ _ _ _ => true
  | .pktJumptoaddress _ _ => true
  | .pktCommandOther _ _ => true
  | .pktChunk _ => true
  | .ctrlRequestAcknowledge => true
  | .ctrlRequestVersion => true
  | .crcInit => false
  | .crcFeed _ => false
  | .crcRead => false
  | .checksum _ => false
  | .deframeCmd _ => false
  | .deframeChunk _ => false
  | .classify _ => false
  | .statusRead => false
  | .reservedF => false
  | .rspAcknowledge => false
  | .rspNegativeAcknowledge => false
  | .rspVersionReport _ _ _ => false
  | .rspUnrecognized _ => false

/-- An outbound wire code (30_encoding.md R60). -/
def IsOutboundCode : Instr → Bool
  | .pktGetversion => true
  | .pktEraseflash _ _ => true
  | .pktFlashprogram _ _ _ _ _ => true
  | .pktJumptoaddress _ _ => true
  | .pktCommandOther _ _ => true
  | .pktChunk _ => true
  | .ctrlRequestAcknowledge => true
  | .ctrlRequestVersion => true
  | .frameCmd _ _ => false
  | .frameChunk _ => false
  | .emitCtrl _ => false
  | .frameGetversion => false
  | .frameErase _ _ => false
  | .frameProgramHdr _ _ _ _ _ => false
  | .frameJump _ _ => false
  | .crcInit => false
  | .crcFeed _ => false
  | .crcRead => false
  | .checksum _ => false
  | .deframeCmd _ => false
  | .deframeChunk _ => false
  | .classify _ => false
  | .statusRead => false
  | .reservedF => false
  | .rspAcknowledge => false
  | .rspNegativeAcknowledge => false
  | .rspVersionReport _ _ _ => false
  | .rspUnrecognized _ => false

/-- What never writes `crc` (10_state.md R20): CRC_READ, EMIT_CTRL, CLASSIFY, STATUS_READ, the reserved operation, and the wire
codes that are control bytes or responses. -/
def LeavesCrc : Instr → Bool
  | .crcRead => true
  | .emitCtrl _ => true
  | .classify _ => true
  | .statusRead => true
  | .reservedF => true
  | .ctrlRequestAcknowledge => true
  | .ctrlRequestVersion => true
  | .rspAcknowledge => true
  | .rspNegativeAcknowledge => true
  | .rspVersionReport _ _ _ => true
  | .rspUnrecognized _ => true
  | .crcInit => false
  | .crcFeed _ => false
  | .checksum _ => false
  | .frameCmd _ _ => false
  | .frameChunk _ => false
  | .frameGetversion => false
  | .frameErase _ _ => false
  | .frameProgramHdr _ _ _ _ _ => false
  | .frameJump _ _ => false
  | .deframeCmd _ => false
  | .deframeChunk _ => false
  | .pktGetversion => false
  | .pktEraseflash _ _ => false
  | .pktFlashprogram _ _ _ _ _ => false
  | .pktJumptoaddress _ _ => false
  | .pktCommandOther _ _ => false
  | .pktChunk _ => false

end Sys2Proof.Machine
end

