-- ==== Sys2Proof/Certificates/Slice0/Obligations.lean ====
section
/-! DEFINITION. The statements about the model, one per obligation; each docstring says which rule of spec/ it formalises. -/

open Sys2Proof Sys2Proof.Machine

-- Reset and the status (10_state.md R22, 60_exceptions.md R200 to R203, 70_reset_and_hazards.md R250, R251)

/-- 70_reset_and_hazards.md R250: every piece of CRCF state has its reset value after reset, and the parameters are not changed by
it. -/
def Obligations.ResetSetsEveryPieceOfState : Prop :=
  (State.reset.crc = 0xFFFFFFFF#32 ∧ State.reset.fault = 0#1 ∧ State.reset.faultReason = 0#4 ∧ State.reset.txq = []) ∧
  ∀ (s : State) (rest : List Input), s.inputs = .reset :: rest →
    ∃ t, step s = .next t ∧ t.crc = 0xFFFFFFFF#32 ∧ t.fault = 0#1 ∧ t.faultReason = 0#4 ∧ t.txq = [] ∧ t.config = s.config

/-- 70_reset_and_hazards.md R251: reset discards what is still in `txq`, and only reset clears `fault` and `fault_reason`; no
port request performs a reset, for a step on one keeps a set status. -/
def Obligations.OnlyResetClearsTheStatus : Prop :=
  (∀ (s : State) (rest : List Input), s.inputs = .reset :: rest →
    ∃ t, step s = .next t ∧ t.txq = [] ∧ t.fault = 0#1 ∧ t.faultReason = 0#4) ∧
  ∀ s t : State, step s = .next t → (∀ rest, s.inputs ≠ .reset :: rest) →
    (s.fault = 1#1 → t.fault = 1#1) ∧ (s.faultReason ≠ 0#4 → t.faultReason = s.faultReason)

/-- 60_exceptions.md R200: what a fault does and what it leaves: nothing emitted, `crc` unchanged, the status set with the first reason
kept, and nothing else but the result; and whatever the status, every next operation is accepted. -/
def Obligations.FaultsArePrecise : Prop :=
  (∀ (i : Instr) (s t : State) (r : FaultReason), exec i s = .next t → t.results = s.results ++ [.fault r] →
    t = { s with
      fault := 1#1,
      faultReason := if s.faultReason = 0#4 then r.code else s.faultReason,
      results := s.results ++ [.fault r] }) ∧
  ∀ (i : Instr) (s : State), ∃ t, exec i s = .next t

/-- 60_exceptions.md R201, R203: which operation raises which fault, and on which operands: these and no others. The wire codes'
lines rest on log 1. -/
def Obligations.FaultsAreTheListedOnes : Prop :=
  ∀ (i : Instr) (s t : State) (r : FaultReason), exec i s = .next t →
    (t.results = s.results ++ [.fault r] ↔
      (i = .reservedF ∧ r = .illegalOp) ∨
      (∃ c p, (i = .frameCmd c p ∨ i = .pktCommandOther c p) ∧ 254 < p.length ∧ r = .lengthOverflow) ∨
      (∃ k, (i = .frameChunk k ∨ i = .pktChunk k) ∧ (k.length = 0 ∨ 252 < k.length) ∧ r = .badChunk) ∨
      (∃ c, i = .emitCtrl c ∧ c ≠ 0x04#8 ∧ c ≠ 0x05#8 ∧ r = .badControl) ∨
      (∃ p, (i = .frameJump 0xFFFFFFFF#32 p ∨ i = .pktJumptoaddress 0xFFFFFFFF#32 p) ∧ p ≠ 0xFF#8 ∧ p ≠ 0xAA#8 ∧
        r = .badPersist))

/-- 60_exceptions.md R202: the reserved op code raises IllegalOp and does nothing else. -/
def Obligations.ReservedOpRaisesIllegalOp : Prop :=
  (∀ s : State, exec .reservedF s = .next (s.faulted .illegalOp 1#4)) ∧
  ∀ r : Request, r.op = 0xF#4 → decodeRequest r = .reservedF

/-- 10_state.md R22, its last point: an operation executes the same whether `fault` is set or not; only STATUS_READ's result shows
the status. -/
def Obligations.StatusDoesNotSteerOperations : Prop :=
  ∀ (i : Instr) (s t : State) (f : BitVec 1) (n : Nibble), exec i s = .next t →
    ∃ u, exec i { s with fault := f, faultReason := n } = .next u ∧
      u.crc = t.crc ∧ u.txq = t.txq ∧ u.host = t.host ∧ (i ≠ .statusRead → u.results = t.results)

/-- 42_deframer.md R153, 10_state.md R22: an operation that does not fault leaves the status as it was; so a deframer, whatever its
verdict, does. -/
def Obligations.StatusChangesOnlyOnAFault : Prop :=
  (∀ (i : Instr) (s t : State), exec i s = .next t → (∀ r, t.results ≠ s.results ++ [.fault r]) →
    t.fault = s.fault ∧ t.faultReason = s.faultReason) ∧
  ∀ (m : Message) (s : State), ∃ t u v w,
    exec (.deframeCmd m) s = .next t ∧ t.results = s.results ++ [.verdict v] ∧
    exec (.deframeChunk m) s = .next u ∧ u.results = s.results ++ [.verdict w] ∧
    t.fault = s.fault ∧ t.faultReason = s.faultReason ∧ u.fault = s.fault ∧ u.faultReason = s.faultReason

-- The CRC algorithm (40_crc_engine.md R100 to R106)

/-- 40_crc_engine.md R100: the byte enters at the top, and eight times the top bit, tested before the shift, decides the XOR. -/
def Obligations.ByteStepTestsTheTopBitFirst : Prop :=
  ∀ (c : Word) (x : Byte),
    crcStep8 c x =
      (fun v : Word => if v.getLsbD 31 = true then (v <<< 1) ^^^ 0x04C11DB7#32 else v <<< 1)^[8]
        (c ^^^ (x.setWidth 32 <<< 24))

/-- 40_crc_engine.md R101: the expansion of each byte, in order, and its length. -/
def Obligations.ExpansionPutsEachByteInItsWord : Prop :=
  expand [] = [] ∧
  (∀ d : Message, (expand d).length = 4 * d.length) ∧
  ∀ (d : Message) (i : Nat) (h : i < d.length),
    ((expand d).drop (4 * i)).take 4 = [0x00#8, 0x00#8, 0x00#8, d[i]]

/-- 40_crc_engine.md R102: the raw CRC folds the byte step over the bytes in order, so it splits at a concatenation. -/
def Obligations.RawCrcFoldsOverBytes : Prop :=
  (∀ c : Word, crcRaw c [] = c) ∧
  (∀ (c : Word) (x : Byte) (xs : Message), crcRaw c (x :: xs) = crcRaw (crcStep8 c x) xs) ∧
  ∀ (c : Word) (xs ys : Message), crcRaw c (xs ++ ys) = crcRaw (crcRaw c xs) ys

/-- 40_crc_engine.md R104: the word form, 32 shifts after one XOR, and that it equals the byte form. -/
def Obligations.WordFormEqualsByteForm : Prop :=
  (∀ c w : Word, crcWord c w =
    (fun v : Word => if v.getLsbD 31 = true then (v <<< 1) ^^^ 0x04C11DB7#32 else v <<< 1)^[32] (c ^^^ w)) ∧
  (∀ c w : Word, crcRaw c (be32 w) = crcWord c w) ∧
  ∀ d : Message, checksum d = (d.map (fun b => b.setWidth 32)).foldl crcWord 0xFFFFFFFF#32

/-- 40_crc_engine.md R103, R105: the checksum is the raw CRC, from `INIT`, of the expanded bytes, XORed with zero; of no bytes it is
`INIT`; of one byte it is the raw CRC of its four expanded bytes. -/
def Obligations.ChecksumIsTheExpandedCrc : Prop :=
  (∀ d : Message, checksum d = crcRaw 0xFFFFFFFF#32 (expand d) ^^^ 0x00000000#32 ∧
    checksum d = crcRaw 0xFFFFFFFF#32 (expand d)) ∧
  checksum [] = 0xFFFFFFFF#32 ∧
  ∀ b : Byte, checksum [b] = crcRaw 0xFFFFFFFF#32 [0x00#8, 0x00#8, 0x00#8, b]

/-- 40_crc_engine.md R106: the two check values, of ASCII "123456789". -/
def Obligations.CheckValues : Prop :=
  crcRaw 0xFFFFFFFF#32 [0x31#8, 0x32#8, 0x33#8, 0x34#8, 0x35#8, 0x36#8, 0x37#8, 0x38#8, 0x39#8] = 0x0376E6E7#32 ∧
  checksum [0x31#8, 0x32#8, 0x33#8, 0x34#8, 0x35#8, 0x36#8, 0x37#8, 0x38#8, 0x39#8] = 0x1556F485#32

-- The engine operations (40_crc_engine.md R110 to R114)

/-- 40_crc_engine.md R110. -/
def Obligations.CrcInitLoadsTheInitialValue : Prop :=
  (∀ s : State, exec .crcInit s = .next (s.answered 0xFFFFFFFF#32 .none)) ∧
  ∀ r : Request, r.op = 0x0#4 → decodeRequest r = .crcInit

/-- 40_crc_engine.md R111: one input byte with its expansion enters the register, by the byte form and by the word form; the
corner cases, a feed right after reset among them; and a sequence of feeds from `INIT` makes the checksum. -/
def Obligations.CrcFeedTakesOneExpandedByte : Prop :=
  (∀ (b : Byte) (s : State),
    exec (.crcFeed b) s = .next (s.answered (crcRaw s.crc [0x00#8, 0x00#8, 0x00#8, b]) .none) ∧
    exec (.crcFeed b) s = .next (s.answered (crcWord s.crc (b.setWidth 32)) .none)) ∧
  (crcRaw 0#32 [0#8, 0#8, 0#8, 0#8] = 0#32 ∧ crcRaw 0#32 [0#8, 0#8, 0#8, 0x01#8] = 0x04C11DB7#32 ∧
    crcRaw 0x80000000#32 [0#8, 0#8, 0#8, 0#8] = 0xA6E63D1D#32 ∧
    crcRaw 0xFFFFFFFF#32 [0#8, 0#8, 0#8, 0x01#8] = 0xC3C5C0CC#32) ∧
  exec (.crcFeed 0x01#8) State.reset = .next (State.reset.answered 0xC3C5C0CC#32 .none) ∧
  (∀ d : Message, d.foldl (fun c b => crcRaw c [0x00#8, 0x00#8, 0x00#8, b]) 0xFFFFFFFF#32 = checksum d) ∧
  ∀ r : Request, r.op = 0x1#4 → decodeRequest r = .crcFeed r.a

/-- 40_crc_engine.md R112: the register is answered and nothing else changes; after reset it is `INIT`, and after a FRAME operation
that did not fault it is the checksum field of the packet that operation emitted: of a command packet the checksum of the bytes
before it, of a chunk packet that of the bytes the parameter chooses. -/
def Obligations.CrcReadAnswersTheRegister : Prop :=
  (∀ s : State, exec .crcRead s = .next (s.answered s.crc (.word s.crc))) ∧
  exec .crcRead State.reset = .next (State.reset.answered 0xFFFFFFFF#32 (.word 0xFFFFFFFF#32)) ∧
  (∀ (i : Instr) (s t : State), IsFraming i = true → IsOutboundCode i = false → LeavesCrc i = false →
    exec i s = .next t → t.results = s.results ++ [.none] →
    ∃ u body w, exec .crcRead t = .next u ∧ u.results = t.results ++ [.word w] ∧
      t.txq = s.txq ++ [body ++ be32 w] ∧
      ((∀ k, i ≠ .frameChunk k) → w = checksum body) ∧
      ∀ k, i = .frameChunk k → body = [BitVec.ofNat 8 k.length] ++ k ∧
        w = checksum (if s.config.chunkCrcIncludesLength then body else k)) ∧
  ∀ r : Request, r.op = 0x2#4 → decodeRequest r = .crcRead

/-- 40_crc_engine.md R113: CHECKSUM answers the checksum of its data and leaves `crc` holding it, whatever `crc` was. -/
def Obligations.ChecksumAnswersTheChecksum : Prop :=
  (∀ (d : Message) (s : State), exec (.checksum d) s = .next (s.answered (checksum d) (.word (checksum d)))) ∧
  (checksum [] = 0xFFFFFFFF#32 ∧ checksum [0x01#8, 0x00#8] = 0x2009DCD4#32) ∧
  ∀ r : Request, r.op = 0x3#4 → decodeRequest r = .checksum r.data

/-- 40_crc_engine.md R114: STATUS_READ answers the status word and changes nothing else; after reset it answers 0; a first fault
with reason 4 makes it answer `0x41`, and that stays so under every operation. -/
def Obligations.StatusReadAnswersTheStatus : Prop :=
  (∀ s : State,
    exec .statusRead s =
      .next (s.answered s.crc (.status ((s.faultReason.setWidth 32 <<< 4) ||| s.fault.setWidth 32)))) ∧
  exec .statusRead State.reset = .next (State.reset.answered 0xFFFFFFFF#32 (.status 0x00000000#32)) ∧
  (∀ s : State, s.fault = 0#1 → s.faultReason = 0#4 →
    ∃ t u, exec (.emitCtrl 0x06#8) s = .next t ∧ exec .statusRead t = .next u ∧
      u.results = t.results ++ [.status 0x00000041#32]) ∧
  (∀ (i : Instr) (s t : State), s.fault = 1#1 → s.faultReason = 4#4 → exec i s = .next t →
    ∃ u, exec .statusRead t = .next u ∧ u.results = t.results ++ [.status 0x00000041#32]) ∧
  ∀ r : Request, r.op = 0xE#4 → decodeRequest r = .statusRead

/-- 30_encoding.md R72: the bits of the status word. -/
def Obligations.StatusWordLayout : Prop :=
  ∀ s : State, ∃ (t : State) (w : Word), exec .statusRead s = .next t ∧ t.results = s.results ++ [.status w] ∧
    w.extractLsb' 0 1 = s.fault ∧ w.extractLsb' 1 3 = 0#3 ∧ w.extractLsb' 4 4 = s.faultReason ∧
    w.extractLsb' 8 24 = 0#24

/-- 40_crc_engine.md R111, 70_reset_and_hazards.md R253: the machine, run on CRC_INIT and then one CRC_FEED for each byte of `d`,
ends with `checksum d` in `crc`, every request answered None, and nothing else changed. -/
def Obligations.IncrementalChecksumRun : Prop :=
  ∀ (d : Message) (s : State),
    s.inputs = .code (.request (Request.ofOp 0x0#4)) ::
      d.map (fun b => .code (.request { Request.ofOp 0x1#4 with a := b })) →
    Host.Core.run core (d.length + 1) s =
      .next { s with
        crc := checksum d, inputs := [], results := s.results ++ List.replicate (d.length + 1) .none }

/-- 70_reset_and_hazards.md R256: CHECKSUM, a FRAME operation that emits a packet, and DEFRAME_CMD and DEFRAME_CHUNK past the length
check, between two feeds, replace `crc`: the feed after one goes on from the `crc` that it left, and that does not depend on
the `crc` before it. The rule's example is the last two lines. -/
def Obligations.OverwriteBetweenFeedsReplacesCrc : Prop :=
  (∀ (i : Instr) (s : State),
    ((∃ d, i = .checksum d) ∨
      (IsFraming i = true ∧ IsOutboundCode i = false ∧ LeavesCrc i = false ∧
        ∃ t, exec i s = .next t ∧ t.results = s.results ++ [.none]) ∨
      ((∃ m, i = .deframeCmd m ∨ i = .deframeChunk m) ∧
        ∃ t v, exec i s = .next t ∧ t.results = s.results ++ [.verdict v] ∧ v ≠ .short ∧ v ≠ .badLength)) →
    ∀ (b : Byte) (c : Word), ∃ t u t' u',
      exec i s = .next t ∧ exec (.crcFeed b) t = .next u ∧
      exec i { s with crc := c } = .next t' ∧ exec (.crcFeed b) t' = .next u' ∧
      u.crc = crcWord t.crc (b.setWidth 32) ∧ t'.crc = t.crc ∧ u'.crc = u.crc) ∧
  (∀ (b : Byte) (s : State), ∃ t u, exec .frameGetversion s = .next t ∧ exec (.crcFeed b) t = .next u ∧
    u.crc = crcWord 0x2009DCD4#32 (b.setWidth 32)) ∧
  crcWord 0x2009DCD4#32 0#32 = 0xFB9CFE47#32

-- The framer (41_framer.md R120 to R134)

/-- 41_framer.md R121. -/
def Obligations.FrameCmdEmitsTheCommandPacket : Prop :=
  (∀ (cmd : Byte) (p : Message) (s : State), p.length ≤ 254 →
    exec (.frameCmd cmd p) s =
      .next (s.emitted (checksum ([BitVec.ofNat 8 (1 + p.length), cmd] ++ p))
        ([BitVec.ofNat 8 (1 + p.length), cmd] ++ p ++
          be32 (checksum ([BitVec.ofNat 8 (1 + p.length), cmd] ++ p))))) ∧
  (∀ (cmd : Byte) (p : Message) (s : State), 254 < p.length →
    exec (.frameCmd cmd p) s = .next (s.faulted .lengthOverflow 2#4)) ∧
  be32 (checksum [0x03#8, 0x01#8, 0xFF#8, 0xFF#8]) = [0x1A#8, 0x14#8, 0x09#8, 0xF1#8] ∧
  ∀ r : Request, r.op = 0x4#4 → decodeRequest r = .frameCmd r.a r.data

/-- 41_framer.md R124, for both values of `CHUNK_CRC_INCLUDES_LENGTH`. -/
def Obligations.FrameChunkEmitsTheChunkPacket : Prop :=
  (∀ (k : Message) (s : State), 1 ≤ k.length → k.length ≤ 252 → s.config.chunkCrcIncludesLength = false →
    exec (.frameChunk k) s =
      .next (s.emitted (checksum k) ([BitVec.ofNat 8 k.length] ++ k ++ be32 (checksum k)))) ∧
  (∀ (k : Message) (s : State), 1 ≤ k.length → k.length ≤ 252 → s.config.chunkCrcIncludesLength = true →
    exec (.frameChunk k) s =
      .next (s.emitted (checksum ([BitVec.ofNat 8 k.length] ++ k))
        ([BitVec.ofNat 8 k.length] ++ k ++ be32 (checksum ([BitVec.ofNat 8 k.length] ++ k))))) ∧
  (∀ (k : Message) (s : State), k.length = 0 ∨ 252 < k.length →
    exec (.frameChunk k) s = .next (s.faulted .badChunk 3#4)) ∧
  (be32 (checksum [0xDE#8, 0xAD#8, 0xBE#8, 0xEF#8]) = [0x79#8, 0x8D#8, 0x88#8, 0x76#8] ∧
    be32 (checksum [0x04#8, 0xDE#8, 0xAD#8, 0xBE#8, 0xEF#8]) = [0x3D#8, 0xCA#8, 0x3B#8, 0xC5#8]) ∧
  ∀ r : Request, r.op = 0x5#4 → decodeRequest r = .frameChunk r.data

/-- 41_framer.md R126. -/
def Obligations.EmitCtrlEmitsABareByte : Prop :=
  (∀ (c : Byte) (s : State), c = 0x04#8 ∨ c = 0x05#8 → exec (.emitCtrl c) s = .next (s.emitted s.crc [c])) ∧
  (∀ (c : Byte) (s : State), c ≠ 0x04#8 → c ≠ 0x05#8 →
    exec (.emitCtrl c) s = .next (s.faulted .badControl 4#4)) ∧
  (∀ s : State, exec (.frameCmd 0x04#8 []) s =
    .next (s.emitted 0x330DAA08#32 [0x01#8, 0x04#8, 0x33#8, 0x0D#8, 0xAA#8, 0x08#8])) ∧
  ∀ r : Request, r.op = 0x6#4 → decodeRequest r = .emitCtrl r.a

/-- 41_framer.md R130. -/
def Obligations.GetVersionPacket : Prop :=
  (∀ s : State, exec .frameGetversion s =
    .next (s.emitted 0x2009DCD4#32 [0x01#8, 0x00#8, 0x20#8, 0x09#8, 0xDC#8, 0xD4#8])) ∧
  ∀ r : Request, r.op = 0x7#4 → decodeRequest r = .frameGetversion

/-- 41_framer.md R131: no pair is rejected. -/
def Obligations.EraseFlashPacket : Prop :=
  (∀ (n m : Byte) (s : State), exec (.frameErase n m) s =
    .next (s.emitted (checksum [0x03#8, 0x01#8, n, m])
      ([0x03#8, 0x01#8, n, m] ++ be32 (checksum [0x03#8, 0x01#8, n, m])))) ∧
  (be32 (checksum [0x03#8, 0x01#8, 0xFF#8, 0xFF#8]) = [0x1A#8, 0x14#8, 0x09#8, 0xF1#8] ∧
    be32 (checksum [0x03#8, 0x01#8, 0x02#8, 0x03#8]) = [0x05#8, 0x59#8, 0x86#8, 0xD5#8] ∧
    be32 (checksum [0x03#8, 0x01#8, 0x00#8, 0x01#8]) = [0x9E#8, 0xC1#8, 0x72#8, 0xA1#8]) ∧
  ∀ r : Request, r.op = 0x8#4 → decodeRequest r = .frameErase r.a r.b

/-- 41_framer.md R132: 17 bytes, fields in the listed order, both words big-endian. -/
def Obligations.FlashProgramHeaderPacket : Prop :=
  (∀ (x y z : Byte) (a n : Word) (s : State), exec (.frameProgramHdr x y z a n) s =
    .next (s.emitted (checksum ([0x0C#8, 0x02#8, x, y, z] ++ be32 a ++ be32 n))
      ([0x0C#8, 0x02#8, x, y, z] ++ be32 a ++ be32 n ++
        be32 (checksum ([0x0C#8, 0x02#8, x, y, z] ++ be32 a ++ be32 n))))) ∧
  [0x0C#8, 0x02#8, 0x01#8, 0x02#8, 0x03#8] ++ be32 0x08008000#32 ++ be32 0x0000012C#32 ++
      be32 (checksum ([0x0C#8, 0x02#8, 0x01#8, 0x02#8, 0x03#8] ++ be32 0x08008000#32 ++ be32 0x0000012C#32)) =
    [0x0C#8, 0x02#8, 0x01#8, 0x02#8, 0x03#8, 0x08#8, 0x00#8, 0x80#8, 0x00#8, 0x00#8, 0x00#8, 0x01#8, 0x2C#8,
      0x24#8, 0xD7#8, 0x75#8, 0xF6#8] ∧
  ∀ r : Request, r.op = 0x9#4 → decodeRequest r = .frameProgramHdr r.a r.b r.c r.w0 r.w1

/-- 41_framer.md R133: the persist byte of the sentinel address is checked, that of any other is forced to `0xFF`. -/
def Obligations.JumpPacketForcesPersist : Prop :=
  (∀ (p : Byte) (s : State), p = 0xFF#8 ∨ p = 0xAA#8 →
    exec (.frameJump 0xFFFFFFFF#32 p) s =
      .next (s.emitted (checksum [0x06#8, 0x03#8, 0xFF#8, 0xFF#8, 0xFF#8, 0xFF#8, p])
        ([0x06#8, 0x03#8, 0xFF#8, 0xFF#8, 0xFF#8, 0xFF#8, p] ++
          be32 (checksum [0x06#8, 0x03#8, 0xFF#8, 0xFF#8, 0xFF#8, 0xFF#8, p])))) ∧
  (∀ (p : Byte) (s : State), p ≠ 0xFF#8 → p ≠ 0xAA#8 →
    exec (.frameJump 0xFFFFFFFF#32 p) s = .next (s.faulted .badPersist 5#4)) ∧
  (∀ (a : Word) (p : Byte) (s : State), a ≠ 0xFFFFFFFF#32 →
    exec (.frameJump a p) s =
      .next (s.emitted (checksum ([0x06#8, 0x03#8] ++ be32 a ++ [0xFF#8]))
        ([0x06#8, 0x03#8] ++ be32 a ++ [0xFF#8] ++ be32 (checksum ([0x06#8, 0x03#8] ++ be32 a ++ [0xFF#8]))))) ∧
  (be32 (checksum [0x06#8, 0x03#8, 0xFF#8, 0xFF#8, 0xFF#8, 0xFF#8, 0xFF#8]) = [0xC3#8, 0xC8#8, 0xC5#8, 0x9C#8] ∧
    be32 (checksum [0x06#8, 0x03#8, 0xFF#8, 0xFF#8, 0xFF#8, 0xFF#8, 0xAA#8]) = [0xAC#8, 0x9A#8, 0x05#8, 0xF0#8] ∧
    be32 (checksum [0x06#8, 0x03#8, 0x08#8, 0x00#8, 0x80#8, 0x00#8, 0xFF#8]) = [0x4B#8, 0xF7#8, 0x6F#8, 0xF9#8]) ∧
  ∀ r : Request, r.op = 0xA#4 → decodeRequest r = .frameJump r.w0 r.a

/-- 41_framer.md R134: each builder is its FRAME_CMD expansion, in every field of the state and in the result; the persist check
comes first; no builder raises LengthOverflow. -/
def Obligations.BuildersEqualTheirExpansions : Prop :=
  (∀ s : State, exec .frameGetversion s = exec (.frameCmd 0x00#8 []) s) ∧
  (∀ (n m : Byte) (s : State), exec (.frameErase n m) s = exec (.frameCmd 0x01#8 [n, m]) s) ∧
  (∀ (x y z : Byte) (a n : Word) (s : State),
    exec (.frameProgramHdr x y z a n) s = exec (.frameCmd 0x02#8 ([x, y, z] ++ be32 a ++ be32 n)) s) ∧
  (∀ (a : Word) (p : Byte) (s : State), a = 0xFFFFFFFF#32 → p ≠ 0xFF#8 → p ≠ 0xAA#8 →
    exec (.frameJump a p) s = .next (s.faulted .badPersist 5#4)) ∧
  (∀ (a : Word) (p : Byte) (s : State), a = 0xFFFFFFFF#32 → p = 0xFF#8 ∨ p = 0xAA#8 →
    exec (.frameJump a p) s = exec (.frameCmd 0x03#8 (be32 a ++ [p])) s) ∧
  (∀ (a : Word) (p : Byte) (s : State), a ≠ 0xFFFFFFFF#32 →
    exec (.frameJump a p) s = exec (.frameCmd 0x03#8 (be32 a ++ [0xFF#8])) s) ∧
  ∀ (i : Instr) (s t : State),
    (i = .frameGetversion ∨ (∃ n m, i = .frameErase n m) ∨ (∃ x y z a n, i = .frameProgramHdr x y z a n) ∨
      ∃ a p, i = .frameJump a p) →
    exec i s = .next t → t.results ≠ s.results ++ [.fault .lengthOverflow]

/-- 41_framer.md R120: a framing operation or outbound code either faults with nothing emitted and `crc` unchanged, or emits exactly
one message and answers None, and a message that is a packet ends in the checksum that `crc` is left holding. The outbound
codes rest on log 1. -/
def Obligations.FramingEmitsExactlyOneMessage : Prop :=
  ∀ (i : Instr) (s : State), IsFraming i = true →
    ∃ t, exec i s = .next t ∧
      ((∃ r, t.results = s.results ++ [.fault r] ∧ t.txq = s.txq ∧ t.crc = s.crc) ∨
        (t.results = s.results ++ [.none] ∧
          ∃ m, t.txq = s.txq ++ [m] ∧
            ((∃ body, m = body ++ be32 t.crc ∧ 2 ≤ body.length ∧ body.length ≤ 256) ∨
              ((m = [0x04#8] ∨ m = [0x05#8]) ∧ t.crc = s.crc))))

/-- 41_framer.md R125: the partition of an image: the number of chunks, each one's bytes and length, their concatenation, the empty image,
and that FRAME_CHUNK faults on none of them. -/
def Obligations.ChunksPartitionTheImage : Prop :=
  chunks [] = [] ∧
  ∀ image : Message,
    ((chunks image).length = (image.length + 251) / 252) ∧
    (chunks image).flatten = image ∧
    (∀ (i : Nat) (h : i < (chunks image).length),
      (chunks image)[i] = (image.take (min (252 * (i + 1)) image.length)).drop (252 * i) ∧
      (i + 1 < (chunks image).length → (chunks image)[i].length = 252) ∧
      (i + 1 = (chunks image).length → (chunks image)[i].length = image.length - 252 * i) ∧
      1 ≤ (chunks image)[i].length ∧ (chunks image)[i].length ≤ 252) ∧
    ∀ k ∈ chunks image, ∀ s : State, ∃ t, exec (.frameChunk k) s = .next t ∧ t.results = s.results ++ [.none]

-- The deframer and the classifier (42_deframer.md R150 to R162)

/-- 42_deframer.md R150, with the order of R152: the three tests in turn, `crc` written only when the comparison is reached. -/
def Obligations.DeframeCmdVerdicts : Prop :=
  (∀ (m : Message) (s : State), m.length < 6 →
    exec (.deframeCmd m) s = .next (s.answered s.crc (.verdict .short))) ∧
  (∀ (m : Message) (s : State) (h : 6 ≤ m.length), m.length ≠ m[0].toNat + 5 →
    exec (.deframeCmd m) s = .next (s.answered s.crc (.verdict .badLength))) ∧
  (∀ (m : Message) (s : State) (h : 6 ≤ m.length), m.length = m[0].toNat + 5 →
    fromBe32 ((m.take (m[0].toNat + 5)).drop (1 + m[0].toNat)) ≠ checksum (m.take (1 + m[0].toNat)) →
    exec (.deframeCmd m) s = .next (s.answered (checksum (m.take (1 + m[0].toNat))) (.verdict .badChecksum))) ∧
  (∀ (m : Message) (s : State) (h : 6 ≤ m.length), m.length = m[0].toNat + 5 →
    fromBe32 ((m.take (m[0].toNat + 5)).drop (1 + m[0].toNat)) = checksum (m.take (1 + m[0].toNat)) →
    exec (.deframeCmd m) s =
      .next (s.answered (checksum (m.take (1 + m[0].toNat)))
        (.verdict (.okCommand m[1] ((m.take (1 + m[0].toNat)).drop 2))))) ∧
  ∀ r : Request, r.op = 0xB#4 → decodeRequest r = .deframeCmd r.data

/-- 42_deframer.md R155: as R150, with length bytes 253 to 255 refused and the coverage the parameter chooses; a packet framed with
the other parameter value gives BadChecksum. -/
def Obligations.DeframeChunkVerdicts : Prop :=
  (∀ (m : Message) (s : State), m.length < 6 →
    exec (.deframeChunk m) s = .next (s.answered s.crc (.verdict .short))) ∧
  (∀ (m : Message) (s : State) (h : 6 ≤ m.length), 252 < m[0].toNat ∨ m.length ≠ m[0].toNat + 5 →
    exec (.deframeChunk m) s = .next (s.answered s.crc (.verdict .badLength))) ∧
  (∀ (m cov : Message) (s : State) (h : 6 ≤ m.length), m[0].toNat ≤ 252 → m.length = m[0].toNat + 5 →
    (cov = if s.config.chunkCrcIncludesLength then m.take (1 + m[0].toNat) else (m.take (1 + m[0].toNat)).drop 1) →
    fromBe32 ((m.take (m[0].toNat + 5)).drop (1 + m[0].toNat)) ≠ checksum cov →
    exec (.deframeChunk m) s = .next (s.answered (checksum cov) (.verdict .badChecksum))) ∧
  (∀ (m cov : Message) (s : State) (h : 6 ≤ m.length), m[0].toNat ≤ 252 → m.length = m[0].toNat + 5 →
    (cov = if s.config.chunkCrcIncludesLength then m.take (1 + m[0].toNat) else (m.take (1 + m[0].toNat)).drop 1) →
    fromBe32 ((m.take (m[0].toNat + 5)).drop (1 + m[0].toNat)) = checksum cov →
    exec (.deframeChunk m) s =
      .next (s.answered (checksum cov) (.verdict (.okChunk ((m.take (1 + m[0].toNat)).drop 1))))) ∧
  (∀ (k : Message) (s : State), 1 ≤ k.length → k.length ≤ 252 →
    ∃ t, exec (.deframeChunk (chunkPacket { chunkCrcIncludesLength := !s.config.chunkCrcIncludesLength } k)) s = .next t ∧
      t.results = s.results ++ [.verdict .badChecksum]) ∧
  ∀ r : Request, r.op = 0xC#4 → decodeRequest r = .deframeChunk r.data

/-- 42_deframer.md R156: what FRAME_CMD or FRAME_CHUNK emits, the deframer of the same CRCF gives back whole. -/
def Obligations.DeframeOfFrameGivesItBack : Prop :=
  (∀ (cmd : Byte) (p : Message) (s : State), p.length ≤ 254 →
    ∃ m t u, exec (.frameCmd cmd p) s = .next t ∧ t.txq = s.txq ++ [m] ∧
      exec (.deframeCmd m) t = .next u ∧ u.results = t.results ++ [.verdict (.okCommand cmd p)]) ∧
  ∀ (k : Message) (s : State), 1 ≤ k.length → k.length ≤ 252 →
    ∃ m t u, exec (.frameChunk k) s = .next t ∧ t.txq = s.txq ++ [m] ∧
      exec (.deframeChunk m) t = .next u ∧ u.results = t.results ++ [.verdict (.okChunk k)]

/-- 42_deframer.md R157: of a command packet with exactly one byte changed, a changed length byte gives BadLength and any other changed
byte gives BadChecksum; and one message can be both a command packet and a chunk packet, which DEFRAME_CMD cannot tell
apart. -/
def Obligations.OneChangedByteIsDetected : Prop :=
  (∀ (cmd : Byte) (p : Message) (j : Nat) (v : Byte) (s : State), p.length ≤ 254 →
    ∀ h : j < (commandPacket cmd p).length, (commandPacket cmd p)[j] ≠ v →
      ∃ t, exec (.deframeCmd ((commandPacket cmd p).set j v)) s = .next t ∧
        t.results = s.results ++ [.verdict (if j = 0 then .badLength else .badChecksum)]) ∧
  ∃ m : Message, IsCommandPacket m ∧ IsChunkPacket { chunkCrcIncludesLength := true } m

/-- 42_deframer.md R160: CLASSIFY is total, its four answers by exact length and content, and it changes no state of CRCF. That the
host's slots stay as they were under a CLASSIFY at the port is the model's choice (log 23). -/
def Obligations.ClassifyIsTotal : Prop :=
  (∀ s : State, exec (.classify [0xFF#8]) s = .next (s.answered s.crc (.event .acknowledge))) ∧
  (∀ s : State, exec (.classify [0x01#8]) s = .next (s.answered s.crc (.event .negativeAcknowledge))) ∧
  (∀ (x y z : Byte) (s : State),
    exec (.classify [x, y, z]) s = .next (s.answered s.crc (.event (.versionReport x y z)))) ∧
  (∀ (m : Message) (s : State), m ≠ [0xFF#8] → m ≠ [0x01#8] → m.length ≠ 3 →
    exec (.classify m) s = .next (s.answered s.crc (.event (.unrecognized m)))) ∧
  ∀ r : Request, r.op = 0xD#4 → decodeRequest r = .classify r.data

-- The wire codes (30_encoding.md R60 to R69; log 1)

/-- 30_encoding.md R61 to R66: an outbound wire code that is well-formed runs to a next state in which exactly its own message is
appended to `txq`, the result is None, and the status, the host and the parameter are unchanged. What running such a code
means is the model's choice (log 1). -/
def Obligations.OutboundCodesEmitTheirOwnMessage : Prop :=
  ∀ (i : Instr) (s : State), IsOutboundCode i = true → i.wf = true →
    ∃ t f m, encode s.config i = .wire f m ∧ exec i s = .next t ∧
      t.txq = s.txq ++ [m] ∧ t.results = s.results ++ [.none] ∧
      t.fault = s.fault ∧ t.faultReason = s.faultReason ∧ t.config = s.config ∧ t.inputs = s.inputs ∧
      t.host = s.host

/-- 42_deframer.md R160, R162 and 60_exceptions.md R212: an inbound response is classified and sets the slot of its event, and touches no
CRCF state. That the code's row means its delivery is the model's choice (log 1), and so is it that new bytes replace those a set
slot still holds (log 9). -/
def Obligations.ResponsesSetTheirSlot : Prop :=
  (∀ s : State, exec .rspAcknowledge s =
    .next { s with
      results := s.results ++ [.event .acknowledge],
      host := { s.host with slots := { s.host.slots with acknowledge := true } } }) ∧
  (∀ s : State, exec .rspNegativeAcknowledge s =
    .next { s with
      results := s.results ++ [.event .negativeAcknowledge],
      host := { s.host with slots := { s.host.slots with negativeAcknowledge := true } } }) ∧
  (∀ (x y z : Byte) (s : State), exec (.rspVersionReport x y z) s =
    .next { s with
      results := s.results ++ [.event (.versionReport x y z)],
      host := { s.host with slots := { s.host.slots with versionReport := some (x, y, z) } } }) ∧
  ∀ (m : Message) (s : State), m ≠ [0xFF#8] → m ≠ [0x01#8] → m.length ≠ 3 →
    exec (.rspUnrecognized m) s =
      .next { s with
        results := s.results ++ [.event (.unrecognized m)],
        host := { s.host with slots := { s.host.slots with unrecognized := some m } } }

-- Encoding (30_encoding.md)

/-- A few words written out from 30_encoding.md: an op code of R71 with its operands, a packet of R61, one of R62, a control byte of R65, a
response of R68. -/
def Obligations.SpecWordsDecode : Prop :=
  decode Config.default (.request ⟨0x9#4, 0x01#8, 0x02#8, 0x03#8, 0x08008000#32, 0x0000012C#32, []⟩) =
    .ok (.frameProgramHdr 0x01#8 0x02#8 0x03#8 0x08008000#32 0x0000012C#32) ∧
  decode Config.default (.wire .command [0x03#8, 0x01#8, 0xFF#8, 0xFF#8, 0x1A#8, 0x14#8, 0x09#8, 0xF1#8]) =
    .ok (.pktEraseflash 0xFF#8 0xFF#8) ∧
  decode Config.default (.wire .chunk [0x04#8, 0xDE#8, 0xAD#8, 0xBE#8, 0xEF#8, 0x79#8, 0x8D#8, 0x88#8, 0x76#8]) =
    .ok (.pktChunk [0xDE#8, 0xAD#8, 0xBE#8, 0xEF#8]) ∧
  decode Config.default (.wire .control [0x04#8]) = .ok .ctrlRequestAcknowledge ∧
  decode Config.default (.wire .response [0x01#8, 0x02#8, 0x03#8]) = .ok (.rspVersionReport 0x01#8 0x02#8 0x03#8)

/-- 30_encoding.md R71: the fields an operation does not use are ignored: two requests that agree on `op` and on the fields their
operation uses name the same instruction. -/
def Obligations.UnusedRequestFieldsAreIgnored : Prop :=
  ∀ r q : Request, q.op = r.op →
    (r.op ∈ [0x1#4, 0x4#4, 0x6#4, 0x8#4, 0x9#4, 0xA#4] → q.a = r.a) →
    (r.op ∈ [0x8#4, 0x9#4] → q.b = r.b) → (r.op = 0x9#4 → q.c = r.c) →
    (r.op ∈ [0x9#4, 0xA#4] → q.w0 = r.w0) → (r.op = 0x9#4 → q.w1 = r.w1) →
    (r.op ∈ [0x3#4, 0x4#4, 0x5#4, 0xB#4, 0xC#4, 0xD#4] → q.data = r.data) →
    decodeRequest q = decodeRequest r

/-- 30_encoding.md sections 1 and 2: the decoder gives back every well-formed instruction that the encoder writes, with every operand,
whatever the parameter. -/
def Obligations.DecodeOfEncodeIsTheInstruction : Prop :=
  ∀ (config : Config) (i : Instr), i.wf = true → decode config (encode config i) = .ok i

/-- 30_encoding.md section 1, 41_framer.md R121, R124, R126: a wire message has one meaning and one only: what the decoder reads from it
is well-formed and is encoded as that very message in that very format. And every outbound message has one, so everything
CRCF emits decodes; that a command packet no builder sends is read as PKT_COMMAND_OTHER is the model's choice (log 8). -/
def Obligations.EveryDecodedMessageIsItsEncoding : Prop :=
  (∀ (config : Config) (f : WireFormat) (m : Message) (i : Instr),
    decode config (.wire f m) = .ok i → i.wf = true ∧ encode config i = .wire f m) ∧
  ∀ (config : Config) (m : Message), IsOutbound config m →
    ∃ f i, decode config (.wire f m) = .ok i ∧ IsOutboundCode i = true

-- The machine (00_scope.md R3, 10_state.md R20 to R25, 20_memory.md R46)

/-- A step takes the first input: a code that decodes to `i` runs `i` in the state without that input; with no input the state
stays; a word placed by withFetchWord runs what the decoder reads from it (log 2, log 7). -/
def Obligations.StepRunsTheDecodedInstruction : Prop :=
  (∀ (s : State) (c : Code) (rest : List Input) (i : Instr), s.inputs = .code c :: rest → decode s.config c = .ok i →
    step s = exec i { s with inputs := rest }) ∧
  (∀ s : State, s.inputs = [] → step s = .next s) ∧
  ∀ (s : State) (nbits w : Nat) (i : Instr), decodeTableWord nbits w = some i →
    step (s.withFetchWord nbits w) = exec i s

/-- 60_exceptions.md R200, R204: no step stops the machine, whatever takes effect. A message of an outbound format that is no code of it
is rejected by name, and is answered with the verdict or the fault that 93_implementation_defined.md X9 and X5 name, with nothing
emitted; that it is answered so is the model's choice (log 8, log 10). -/
def Obligations.EveryStepAnswersANextState : Prop :=
  (∀ s : State, ∃ t, step s = .next t) ∧
  ∀ (s : State) (f : WireFormat) (m : Message) (e : WireError) (rest : List Input),
    s.inputs = .code (.wire f m) :: rest → decode s.config (.wire f m) = .error e →
    ∃ t, step s = .next t ∧ t.txq = s.txq ∧ t.host = s.host ∧
      (e = .short → t.results = s.results ++ [.verdict .short] ∧ t.crc = s.crc ∧ t.fault = s.fault) ∧
      (e = .badLength → t.results = s.results ++ [.verdict .badLength] ∧ t.crc = s.crc ∧ t.fault = s.fault) ∧
      (e = .badChecksum → t.results = s.results ++ [.verdict .badChecksum] ∧ t.fault = s.fault) ∧
      (e = .notControl → t.results = s.results ++ [.fault .badControl] ∧ t.crc = s.crc ∧ t.fault = 1#1)

/-- 10_state.md R24, 00_scope.md R3: every operation, in every state, answers exactly one result and emits at most one message, at the
tail; it changes neither the parameter nor what is still to take effect, and of the host at most the slots, which a response code,
as its delivery, sets (60_exceptions.md R212). What a wire code does as an operation is the model's choice (log 1), and so is
it that a CLASSIFY at the port sets no slot (log 23). -/
def Obligations.EveryOperationAnswersOneResult : Prop :=
  ∀ (i : Instr) (s : State), ∃ t r, exec i s = .next t ∧ t.results = s.results ++ [r] ∧
    (t.txq = s.txq ∨ ∃ m, IsFraming i = true ∧ t.txq = s.txq ++ [m]) ∧ t.config = s.config ∧ t.inputs = s.inputs ∧
    t.host = { s.host with slots := t.host.slots } ∧
    (t.host = s.host ∨ i = .rspAcknowledge ∨ i = .rspNegativeAcknowledge ∨ (∃ x y z, i = .rspVersionReport x y z) ∨
      ∃ m, i = .rspUnrecognized m)

/-- 10_state.md R20, "Not touched by": EMIT_CTRL, CLASSIFY, STATUS_READ, a reserved operation, an operation that faults; and CRC_READ, which
only reads. The wire codes among them rest on log 1. -/
def Obligations.CrcIsLeftAlone : Prop :=
  ∀ (i : Instr) (s t : State), exec i s = .next t →
    (LeavesCrc i = true ∨ ∃ r, t.results = s.results ++ [.fault r]) → t.crc = s.crc

/-- 10_state.md R25: no step changes the parameter. -/
def Obligations.ParameterNeverChanges : Prop :=
  ∀ s t : State, step s = .next t → t.config = s.config

/-- The reset state meets the invariant. -/
def Obligations.ResetMeetsTheInvariant : Prop := State.Inv State.reset

/-- 41_framer.md R122, 10_state.md R22, 60_exceptions.md R201: from every state that meets the invariant, a step, of any agent, gives one
that meets it: everything emitted, published or kept is a whole packet with its length byte and checksum or a control byte,
and the status is consistent. -/
def Obligations.StepKeepsTheInvariant : Prop :=
  ∀ s t : State, s.Inv → step s = .next t → t.Inv

/-- 70_reset_and_hazards.md R258: the sizes of what is emitted: a device whose receive buffer holds `rx` bytes, at least 257, holds
every chunk packet and control byte, and one of at least 17 bytes holds every builder's packet. `rx` stands for `DEVICE_RX_MAX`
(log 5). -/
def Obligations.EmittedMessagesFit : Prop :=
  (∀ s : State, s.Inv → ∀ m ∈ s.txq,
    (1 ≤ m.length ∧ m.length ≤ 260) ∧
    ∀ rx : Nat, 257 ≤ rx → IsChunkPacket s.config m ∨ IsControlByte m → m.length ≤ rx) ∧
  ∀ (i : Instr) (s t : State) (m : Message) (rx : Nat), 17 ≤ rx →
    (i = .frameGetversion ∨ (∃ n k, i = .frameErase n k) ∨ (∃ x y z a n, i = .frameProgramHdr x y z a n) ∨
      ∃ a p, i = .frameJump a p) →
    exec i s = .next t → t.txq = s.txq ++ [m] → m.length ≤ rx

/-- 60_exceptions.md R213: a delivered CLASSIFY and any other operation take effect in either order with the same CRCF state. -/
def Obligations.ClassifyCommutesWithEveryOperation : Prop :=
  ∀ (i : Instr) (m : Message) (s : State),
    ∃ t t' u u', exec (.classify m) s = .next t ∧ exec i t = .next t' ∧
      exec i s = .next u ∧ exec (.classify m) u = .next u' ∧ SameBlock t' u'

-- The host environment (60_exceptions.md R207 to R223; log 11)

/-- 20_memory.md R42, 60_exceptions.md R211: the transport publishes the head of `txq` whole, and adds its pacing delay. -/
def Obligations.TransportPublishesTheHead : Prop :=
  ∀ (s : State) (m : Message) (q : List Message) (rest : List Input), s.inputs = .publish :: rest → s.txq = m :: q →
    step s = .next { s with
      inputs := rest, txq := q,
      host := { s.host with sent := s.host.sent ++ [m], elapsedMs := s.host.elapsedMs + 500 } }

/-- 60_exceptions.md R215, R220 to R223: the packets, the poll, the attempt limit and the version wait of each sequence. -/
def Obligations.SequencesHaveTheirPlans : Prop :=
  planOf .getVersion = { remaining := [.frameGetversion], poll := false, limit := 1, askVersion := true } ∧
  (∀ (x y z : Byte) (a n : Word) (image : Message), planOf (.flashProgram x y z a n image) =
    { remaining := .frameProgramHdr x y z a n :: (chunks image).map .frameChunk,
      poll := true, limit := 3, askVersion := false }) ∧
  (∀ a b : Byte, planOf (.eraseFlash a b) =
    { remaining := [.frameErase a b], poll := false, limit := 5, askVersion := false }) ∧
  ∀ (a : Word) (p : Byte), planOf (.jumpToAddress a p) =
    { remaining := [.frameJump a p], poll := false, limit := 5, askVersion := false }

/-- 60_exceptions.md R212, 70_reset_and_hazards.md R257: when the orchestration path builds its next packet all four slots are clear, and the
message that was emitted is the one it keeps. -/
def Obligations.SlotsAreClearedBeforeARequest : Prop :=
  ∀ (s t : State) (op : Instr) (ops : List Instr) (rest : List Input), s.inputs = .advance :: rest →
    s.host.phase = .frame → s.host.plan.remaining = op :: ops → IsFraming op = true → step s = .next t →
    t.host.slots = Slots.clear ∧
      ((t.host.phase = .transmit ∧ t.txq = s.txq ++ [t.host.packet] ∧ t.host.attemptsLeft = s.host.plan.limit) ∨
        (t.host.phase = .idle ∧ t.txq = s.txq ∧ t.host.reports = s.host.reports ++ [.framingFault]))

/-- 41_framer.md R123: no step but the advance that builds a packet and a restart of the host changes the kept packet, and every attempt
after the first publishes exactly it (log 11, log 18). -/
def Obligations.RetriesResendTheSamePacket : Prop :=
  (∀ s t : State, step s = .next t → ¬ (s.host.phase = .frame ∧ ∃ rest, s.inputs = .advance :: rest) →
    (∀ rest, s.inputs ≠ .restart :: rest) →
    t.host.packet = s.host.packet) ∧
  ∀ (s : State) (rest : List Input), s.inputs = .advance :: rest → s.host.phase = .transmit →
    0 < s.host.attemptsLeft → s.host.attemptsLeft < s.host.plan.limit →
    ∃ t, step s = .next t ∧ t.host.sent = s.host.sent ++ [s.host.packet] ∧ t.txq = s.txq ∧ t.crc = s.crc ∧
      t.host.attemptsLeft = s.host.attemptsLeft - 1

/-- 60_exceptions.md R214: an attempt succeeds on Acknowledge, and fails on NegativeAcknowledge, on Unrecognized or when the last wait is
exhausted; the slot that was observed is cleared, and no other. -/
def Obligations.AttemptEndsByItsWaits : Prop :=
  (∀ (s : State) (rest : List Input), s.inputs = .advance :: rest → s.host.phase = .awaitAcknowledge →
    s.host.slots.acknowledge = true →
    ∃ t, step s = .next t ∧ t.host.phase = .frame ∧ t.host.slots = { s.host.slots with acknowledge := false }) ∧
  (∀ (s : State) (rest : List Input), s.inputs = .advance :: rest → s.host.phase = .awaitNegativeAcknowledge →
    s.host.slots.negativeAcknowledge = true →
    ∃ t, step s = .next t ∧ t.host.phase = .transmit ∧
      t.host.slots = { s.host.slots with negativeAcknowledge := false }) ∧
  (∀ (s : State) (rest : List Input) (m : Message), s.inputs = .advance :: rest → s.host.phase = .awaitUnrecognized →
    s.host.slots.unrecognized = some m →
    ∃ t, step s = .next t ∧ t.host.phase = .transmit ∧ t.host.slots = { s.host.slots with unrecognized := none }) ∧
  ∀ (s : State) (rest : List Input), s.inputs = .timeout :: rest → s.host.phase = .awaitUnrecognized →
    s.host.slots.unrecognized = none →
    ∃ t, step s = .next t ∧ t.host.phase = .transmit ∧ t.host.slots = s.host.slots

/-- 60_exceptions.md R216: an Acknowledge that is delivered during the wait for NegativeAcknowledge is not seen by that attempt and stays
set, whether that wait goes on or is exhausted. -/
def Obligations.LateAcknowledgeStaysSet : Prop :=
  ∀ (s : State) (rest : List Input), s.host.phase = .awaitNegativeAcknowledge →
    s.host.slots.negativeAcknowledge = false →
    s.inputs = .code (.wire .response [0xFF#8]) :: .advance :: .timeout :: rest →
    ∃ t, Host.Core.run core 3 s = .next t ∧ t.host.phase = .awaitUnrecognized ∧
      t.host.slots = { s.host.slots with acknowledge := true } ∧ t.host.attemptsLeft = s.host.attemptsLeft

/-- 60_exceptions.md R214, R216, R221: with nothing ever delivered, a packet that has `n` attempts left (not its first) and no poll is sent
exactly `n` more times, each attempt three exhausted waits, and then the sequence ends in RetriesExhausted; CRCF's own state
stays as it was. -/
def Obligations.SilenceExhaustsTheAttempts : Prop :=
  ∀ (n : Nat) (s : State), s.host.phase = .transmit → s.host.attemptsLeft = n → n < s.host.plan.limit →
    s.host.plan.poll = false →
    s.host.slots = Slots.clear →
    s.inputs = (List.replicate n [Input.advance, .timeout, .timeout, .timeout]).flatten ++ [.advance] →
    ∃ t, Host.Core.run core (4 * n + 1) s = .next t ∧
      t.host.phase = .idle ∧ t.inputs = [] ∧
      t.host.sent = s.host.sent ++ List.replicate n s.host.packet ∧
      t.host.reports = s.host.reports ++ [.failure .retriesExhausted] ∧
      t.host.elapsedMs = s.host.elapsedMs + n * (3 * 5000 + 500) ∧
      SameBlock t s

/-- 60_exceptions.md R208, R221: when the attempts are used up the sequence is aborted: nothing more is sent and no later packet is built. -/
def Obligations.ExhaustedAttemptsAbortTheSequence : Prop :=
  ∀ (s : State) (rest : List Input), s.inputs = .advance :: rest → s.host.phase = .transmit → s.host.attemptsLeft = 0 →
    ∃ t, step s = .next t ∧ t.host.phase = .idle ∧ t.host.plan.remaining = [] ∧ t.host.sent = s.host.sent ∧
      t.host.reports = s.host.reports ++ [.failure .retriesExhausted] ∧ SameBlock t s

/-- 70_reset_and_hazards.md R252: a new run of the host starts with all four slots clear and no request outstanding; CRCF's state is not
touched. -/
def Obligations.RestartClearsTheSlots : Prop :=
  ∀ (s : State) (rest : List Input), s.inputs = .restart :: rest →
    ∃ t, step s = .next t ∧ t.host.slots = Slots.clear ∧ t.host.phase = .idle ∧ t.host.todo = [] ∧
      t.host.plan.remaining = [] ∧ SameBlock t s
end

