-- ==== Sys2Proof/Laws/Operands.lean ====
section
/-! SUPPORT. Laws of the operand forms and of the packet builders' lengths. -/

namespace Sys2Proof.Machine

@[simp] theorem be32_length (v : Word) : (be32 v).length = 4 := rfl

@[simp] theorem fromBe32_be32 (v : Word) : fromBe32 (be32 v) = v := by
  apply BitVec.eq_of_toNat_eq
  have h : v.toNat < 4294967296 := v.isLt
  simp only [be32, fromBe32, BitVec.toNat_ofNat, BitVec.extractLsb'_toNat, Nat.shiftRight_eq_div_pow]
  generalize v.toNat = n at h
  norm_num
  omega

/-- The four base-256 digits of a number below 2^32. -/
theorem digits_of_be32 {n0 n1 n2 n3 : Nat} (h0 : n0 < 256) (h1 : n1 < 256) (h2 : n2 < 256) (h3 : n3 < 256) :
    (n0 * 16777216 + n1 * 65536 + n2 * 256 + n3) % 4294967296 / 16777216 % 256 = n0 ∧
    (n0 * 16777216 + n1 * 65536 + n2 * 256 + n3) % 4294967296 / 65536 % 256 = n1 ∧
    (n0 * 16777216 + n1 * 65536 + n2 * 256 + n3) % 4294967296 / 256 % 256 = n2 ∧
    (n0 * 16777216 + n1 * 65536 + n2 * 256 + n3) % 4294967296 / 1 % 256 = n3 := by
  refine ⟨?_, ?_, ?_, ?_⟩ <;> omega

theorem be32_fromBe32 (x0 x1 x2 x3 : Byte) : be32 (fromBe32 [x0, x1, x2, x3]) = [x0, x1, x2, x3] := by
  obtain ⟨d0, d1, d2, d3⟩ := digits_of_be32 x0.isLt x1.isLt x2.isLt x3.isLt
  simp only [be32, fromBe32, List.cons.injEq, and_true]
  refine ⟨?_, ?_, ?_, ?_⟩ <;> apply BitVec.eq_of_toNat_eq <;>
    rw [BitVec.extractLsb'_toNat, BitVec.toNat_ofNat, Nat.shiftRight_eq_div_pow]
  · exact d0
  · exact d1
  · exact d2
  · exact d3

theorem zext32_toNat (b : Byte) : (zext32 b).toNat = b.toNat := by
  have h := b.isLt
  simp only [zext32, BitVec.toNat_setWidth]
  omega

theorem lengthByte_toNat {n : Nat} (h : n ≤ 255) : (lengthByte n).toNat = n := by
  simp only [lengthByte, BitVec.toNat_ofNat]
  omega

@[simp] theorem slice_length (xs : Message) (i j : Nat) : (slice xs i j).length = min j xs.length - i := by
  simp [slice]

theorem commandPacket_length (cmd : Byte) (p : Message) : (commandPacket cmd p).length = p.length + 6 := by
  simp [commandPacket, commandCovered]

theorem chunkPacket_length (config : Config) (k : Message) : (chunkPacket config k).length = k.length + 5 := by
  simp [chunkPacket, chunkFramed]

@[simp] theorem chunkCovered_false (config : Config) (k : Message) (h : config.chunkCrcIncludesLength = false) :
    chunkCovered config k = k := by
  simp [chunkCovered, chunkCover, chunkFramed, h]

@[simp] theorem chunkCovered_true (config : Config) (k : Message) (h : config.chunkCrcIncludesLength = true) :
    chunkCovered config k = chunkFramed k := by
  simp [chunkCovered, chunkCover, h]

end Sys2Proof.Machine
end

