-- ==== Sys2Proof/Laws/Crc.lean ====
section
/-! SUPPORT. Laws of the CRC algorithm: the shift is linear and one-to-one, and the fold over bytes splits at a concatenation. -/

namespace Sys2Proof.Machine

@[simp] theorem crcRaw_nil (c : Word) : crcRaw c [] = c := rfl

@[simp] theorem crcRaw_cons (c : Word) (x : Byte) (xs : Message) :
    crcRaw c (x :: xs) = crcRaw (crcStep8 c x) xs := rfl

@[simp] theorem expand_nil : expand [] = [] := rfl

@[simp] theorem expand_cons (b : Byte) (d : Message) : expand (b :: d) = expandByte b ++ expand d := rfl

/-- The final XOR is with zero (00_scope.md R7, 40_crc_engine.md R103). -/
theorem checksum_eq_crcRaw (d : Message) : checksum d = crcRaw Config.init (expand d) := by
  simp [checksum, Config.xorOut]

@[simp] theorem shiftSteps_zero (c : Word) : shiftSteps 0 c = c := rfl

theorem shiftSteps_succ (n : Nat) (c : Word) : shiftSteps (n + 1) c = shiftSteps n (shiftStep c) := rfl

theorem shiftSteps_add (m n : Nat) (c : Word) : shiftSteps (m + n) c = shiftSteps n (shiftSteps m c) := by
  induction m generalizing c with
  | zero => simp
  | succ m ih => rw [Nat.succ_add, shiftSteps_succ, shiftSteps_succ, ih]

/-- One shift is linear over GF(2). -/
theorem shiftStep_xor (a b : Word) : shiftStep (a ^^^ b) = shiftStep a ^^^ shiftStep b := by
  unfold shiftStep
  rw [BitVec.getLsbD_xor]
  cases ha : a.getLsbD 31 <;> cases hb : b.getLsbD 31 <;>
    simp [BitVec.shiftLeft_xor_distrib] <;> ext i hi <;> simp <;>
    cases (Config.poly[i]) <;> simp

theorem shiftSteps_xor (n : Nat) (a b : Word) : shiftSteps n (a ^^^ b) = shiftSteps n a ^^^ shiftSteps n b := by
  induction n generalizing a b with
  | zero => rfl
  | succ n ih => rw [shiftSteps_succ, shiftSteps_succ, shiftSteps_succ, shiftStep_xor, ih]

/-- A shift of zero is zero. -/
theorem shiftStep_zero : shiftStep 0#32 = 0#32 := by decide

/-- Only zero shifts to zero: `POLY` has its constant term (42_deframer.md R157). -/
theorem shiftStep_eq_zero {c : Word} (h : shiftStep c = 0#32) : c = 0#32 := by
  unfold shiftStep at h
  split at h
  · rename_i h31
    exfalso
    have h0 := congrArg (fun v : Word => v.getLsbD 0) h
    simp [Config.poly] at h0
  · rename_i h31
    apply BitVec.eq_of_getLsbD_eq
    intro i hi
    by_cases h31' : i = 31
    · subst h31'
      simpa using h31
    · have hk := congrArg (fun v : Word => v.getLsbD (i + 1)) h
      have hlt : i + 1 < 32 := by omega
      simpa [hlt, BitVec.getLsbD_eq_getElem hi] using hk

/-- The shift is one-to-one. -/
theorem shiftStep_injective {a b : Word} (h : shiftStep a = shiftStep b) : a = b := by
  have h2 : shiftStep (a ^^^ b) = 0#32 := by rw [shiftStep_xor, h, BitVec.xor_self]
  have h3 := shiftStep_eq_zero h2
  have h4 := congrArg (fun v => v ^^^ b) h3
  simpa [BitVec.xor_assoc] using h4

theorem shiftSteps_injective (n : Nat) {a b : Word} (h : shiftSteps n a = shiftSteps n b) : a = b := by
  induction n generalizing a b with
  | zero => exact h
  | succ n ih => exact shiftStep_injective (ih h)

end Sys2Proof.Machine
end

