-- ==== Sys2Proof/Laws/State.lean ====
section
/-! SUPPORT. One lemma per field of State and of HostEnv per named update, each true by rfl, so that no later proof unfolds a record update. -/

namespace Sys2Proof.Machine

@[simp] theorem setCrc_crc (v : Word) (s : State) : (setCrc v s).crc = v := rfl
@[simp] theorem setCrc_fault (v : Word) (s : State) : (setCrc v s).fault = s.fault := rfl
@[simp] theorem setCrc_faultReason (v : Word) (s : State) : (setCrc v s).faultReason = s.faultReason := rfl
@[simp] theorem setCrc_txq (v : Word) (s : State) : (setCrc v s).txq = s.txq := rfl
@[simp] theorem setCrc_config (v : Word) (s : State) : (setCrc v s).config = s.config := rfl
@[simp] theorem setCrc_inputs (v : Word) (s : State) : (setCrc v s).inputs = s.inputs := rfl
@[simp] theorem setCrc_results (v : Word) (s : State) : (setCrc v s).results = s.results := rfl
@[simp] theorem setCrc_host (v : Word) (s : State) : (setCrc v s).host = s.host := rfl

@[simp] theorem emit_crc (m : Message) (s : State) : (emit m s).crc = s.crc := rfl
@[simp] theorem emit_fault (m : Message) (s : State) : (emit m s).fault = s.fault := rfl
@[simp] theorem emit_faultReason (m : Message) (s : State) : (emit m s).faultReason = s.faultReason := rfl
@[simp] theorem emit_txq (m : Message) (s : State) : (emit m s).txq = s.txq ++ [m] := rfl
@[simp] theorem emit_config (m : Message) (s : State) : (emit m s).config = s.config := rfl
@[simp] theorem emit_inputs (m : Message) (s : State) : (emit m s).inputs = s.inputs := rfl
@[simp] theorem emit_results (m : Message) (s : State) : (emit m s).results = s.results := rfl
@[simp] theorem emit_host (m : Message) (s : State) : (emit m s).host = s.host := rfl

@[simp] theorem setFault_crc (r : FaultReason) (s : State) : (setFault r s).crc = s.crc := rfl
@[simp] theorem setFault_fault (r : FaultReason) (s : State) : (setFault r s).fault = 1#1 := rfl
@[simp] theorem setFault_faultReason (r : FaultReason) (s : State) : (setFault r s).faultReason = keepFirstReason s.faultReason r := rfl
@[simp] theorem setFault_txq (r : FaultReason) (s : State) : (setFault r s).txq = s.txq := rfl
@[simp] theorem setFault_config (r : FaultReason) (s : State) : (setFault r s).config = s.config := rfl
@[simp] theorem setFault_inputs (r : FaultReason) (s : State) : (setFault r s).inputs = s.inputs := rfl
@[simp] theorem setFault_results (r : FaultReason) (s : State) : (setFault r s).results = s.results := rfl
@[simp] theorem setFault_host (r : FaultReason) (s : State) : (setFault r s).host = s.host := rfl

@[simp] theorem setHost_crc (h : HostEnv) (s : State) : (setHost h s).crc = s.crc := rfl
@[simp] theorem setHost_fault (h : HostEnv) (s : State) : (setHost h s).fault = s.fault := rfl
@[simp] theorem setHost_faultReason (h : HostEnv) (s : State) : (setHost h s).faultReason = s.faultReason := rfl
@[simp] theorem setHost_txq (h : HostEnv) (s : State) : (setHost h s).txq = s.txq := rfl
@[simp] theorem setHost_config (h : HostEnv) (s : State) : (setHost h s).config = s.config := rfl
@[simp] theorem setHost_inputs (h : HostEnv) (s : State) : (setHost h s).inputs = s.inputs := rfl
@[simp] theorem setHost_results (h : HostEnv) (s : State) : (setHost h s).results = s.results := rfl
@[simp] theorem setHost_host (h : HostEnv) (s : State) : (setHost h s).host = h := rfl

@[simp] theorem setInputs_crc (l : List Input) (s : State) : (setInputs l s).crc = s.crc := rfl
@[simp] theorem setInputs_fault (l : List Input) (s : State) : (setInputs l s).fault = s.fault := rfl
@[simp] theorem setInputs_faultReason (l : List Input) (s : State) : (setInputs l s).faultReason = s.faultReason := rfl
@[simp] theorem setInputs_txq (l : List Input) (s : State) : (setInputs l s).txq = s.txq := rfl
@[simp] theorem setInputs_config (l : List Input) (s : State) : (setInputs l s).config = s.config := rfl
@[simp] theorem setInputs_inputs (l : List Input) (s : State) : (setInputs l s).inputs = l := rfl
@[simp] theorem setInputs_results (l : List Input) (s : State) : (setInputs l s).results = s.results := rfl
@[simp] theorem setInputs_host (l : List Input) (s : State) : (setInputs l s).host = s.host := rfl

@[simp] theorem publishAll_crc (s : State) : (publishAll s).crc = s.crc := rfl
@[simp] theorem publishAll_fault (s : State) : (publishAll s).fault = s.fault := rfl
@[simp] theorem publishAll_faultReason (s : State) : (publishAll s).faultReason = s.faultReason := rfl
@[simp] theorem publishAll_txq (s : State) : (publishAll s).txq = [] := rfl
@[simp] theorem publishAll_config (s : State) : (publishAll s).config = s.config := rfl
@[simp] theorem publishAll_inputs (s : State) : (publishAll s).inputs = s.inputs := rfl
@[simp] theorem publishAll_results (s : State) : (publishAll s).results = s.results := rfl
@[simp] theorem publishAll_host (s : State) : (publishAll s).host = s.host.publish s.txq := rfl

@[simp] theorem resetBlock_crc (s : State) : (resetBlock s).crc = Config.init := rfl
@[simp] theorem resetBlock_fault (s : State) : (resetBlock s).fault = 0#1 := rfl
@[simp] theorem resetBlock_faultReason (s : State) : (resetBlock s).faultReason = 0#4 := rfl
@[simp] theorem resetBlock_txq (s : State) : (resetBlock s).txq = [] := rfl
@[simp] theorem resetBlock_config (s : State) : (resetBlock s).config = s.config := rfl
@[simp] theorem resetBlock_inputs (s : State) : (resetBlock s).inputs = s.inputs := rfl
@[simp] theorem resetBlock_results (s : State) : (resetBlock s).results = s.results := rfl
@[simp] theorem resetBlock_host (s : State) : (resetBlock s).host = s.host := rfl

@[simp] theorem HostEnv_publish_slots (l : List Message) (h : HostEnv) : (h.publish l).slots = h.slots := rfl
@[simp] theorem HostEnv_publish_todo (l : List Message) (h : HostEnv) : (h.publish l).todo = h.todo := rfl
@[simp] theorem HostEnv_publish_phase (l : List Message) (h : HostEnv) : (h.publish l).phase = h.phase := rfl
@[simp] theorem HostEnv_publish_plan (l : List Message) (h : HostEnv) : (h.publish l).plan = h.plan := rfl
@[simp] theorem HostEnv_publish_packet (l : List Message) (h : HostEnv) : (h.publish l).packet = h.packet := rfl
@[simp] theorem HostEnv_publish_attemptsLeft (l : List Message) (h : HostEnv) : (h.publish l).attemptsLeft = h.attemptsLeft := rfl
@[simp] theorem HostEnv_publish_sent (l : List Message) (h : HostEnv) : (h.publish l).sent = h.sent ++ l := rfl
@[simp] theorem HostEnv_publish_errors (l : List Message) (h : HostEnv) : (h.publish l).errors = h.errors := rfl
@[simp] theorem HostEnv_publish_reports (l : List Message) (h : HostEnv) : (h.publish l).reports = h.reports := rfl
@[simp] theorem HostEnv_publish_elapsedMs (l : List Message) (h : HostEnv) : (h.publish l).elapsedMs = h.elapsedMs + Config.paceMs * l.length := rfl

@[simp] theorem HostEnv_goto_slots (p : Phase) (h : HostEnv) : (h.goto p).slots = h.slots := rfl
@[simp] theorem HostEnv_goto_todo (p : Phase) (h : HostEnv) : (h.goto p).todo = h.todo := rfl
@[simp] theorem HostEnv_goto_phase (p : Phase) (h : HostEnv) : (h.goto p).phase = p := rfl
@[simp] theorem HostEnv_goto_plan (p : Phase) (h : HostEnv) : (h.goto p).plan = h.plan := rfl
@[simp] theorem HostEnv_goto_packet (p : Phase) (h : HostEnv) : (h.goto p).packet = h.packet := rfl
@[simp] theorem HostEnv_goto_attemptsLeft (p : Phase) (h : HostEnv) : (h.goto p).attemptsLeft = h.attemptsLeft := rfl
@[simp] theorem HostEnv_goto_sent (p : Phase) (h : HostEnv) : (h.goto p).sent = h.sent := rfl
@[simp] theorem HostEnv_goto_errors (p : Phase) (h : HostEnv) : (h.goto p).errors = h.errors := rfl
@[simp] theorem HostEnv_goto_reports (p : Phase) (h : HostEnv) : (h.goto p).reports = h.reports := rfl
@[simp] theorem HostEnv_goto_elapsedMs (p : Phase) (h : HostEnv) : (h.goto p).elapsedMs = h.elapsedMs := rfl

@[simp] theorem HostEnv_note_slots (e : HostError) (h : HostEnv) : (h.note e).slots = h.slots := rfl
@[simp] theorem HostEnv_note_todo (e : HostError) (h : HostEnv) : (h.note e).todo = h.todo := rfl
@[simp] theorem HostEnv_note_phase (e : HostError) (h : HostEnv) : (h.note e).phase = h.phase := rfl
@[simp] theorem HostEnv_note_plan (e : HostError) (h : HostEnv) : (h.note e).plan = h.plan := rfl
@[simp] theorem HostEnv_note_packet (e : HostError) (h : HostEnv) : (h.note e).packet = h.packet := rfl
@[simp] theorem HostEnv_note_attemptsLeft (e : HostError) (h : HostEnv) : (h.note e).attemptsLeft = h.attemptsLeft := rfl
@[simp] theorem HostEnv_note_sent (e : HostError) (h : HostEnv) : (h.note e).sent = h.sent := rfl
@[simp] theorem HostEnv_note_errors (e : HostError) (h : HostEnv) : (h.note e).errors = h.errors ++ [e] := rfl
@[simp] theorem HostEnv_note_reports (e : HostError) (h : HostEnv) : (h.note e).reports = h.reports := rfl
@[simp] theorem HostEnv_note_elapsedMs (e : HostError) (h : HostEnv) : (h.note e).elapsedMs = h.elapsedMs := rfl

@[simp] theorem HostEnv_finish_slots (r : HostReport) (h : HostEnv) : (h.finish r).slots = h.slots := rfl
@[simp] theorem HostEnv_finish_todo (r : HostReport) (h : HostEnv) : (h.finish r).todo = h.todo := rfl
@[simp] theorem HostEnv_finish_phase (r : HostReport) (h : HostEnv) : (h.finish r).phase = .idle := rfl
@[simp] theorem HostEnv_finish_plan (r : HostReport) (h : HostEnv) : (h.finish r).plan = Plan.empty := rfl
@[simp] theorem HostEnv_finish_packet (r : HostReport) (h : HostEnv) : (h.finish r).packet = h.packet := rfl
@[simp] theorem HostEnv_finish_attemptsLeft (r : HostReport) (h : HostEnv) : (h.finish r).attemptsLeft = h.attemptsLeft := rfl
@[simp] theorem HostEnv_finish_sent (r : HostReport) (h : HostEnv) : (h.finish r).sent = h.sent := rfl
@[simp] theorem HostEnv_finish_errors (r : HostReport) (h : HostEnv) : (h.finish r).errors = h.errors := rfl
@[simp] theorem HostEnv_finish_reports (r : HostReport) (h : HostEnv) : (h.finish r).reports = h.reports ++ [r] := rfl
@[simp] theorem HostEnv_finish_elapsedMs (r : HostReport) (h : HostEnv) : (h.finish r).elapsedMs = h.elapsedMs := rfl

/-- What `complete` answers: the same state with one more result. -/
theorem complete_eq (r : OpResult) (s : State) :
    complete r s = .next { s with results := s.results ++ [r] } := rfl

/-- `complete` answers a next state, and only this one. -/
theorem complete_next_iff (r : OpResult) (s t : State) :
    complete r s = .next t ↔ t = { s with results := s.results ++ [r] } := by
  rw [complete_eq]
  exact ⟨fun h => (Host.Outcome.next.inj h).symm, fun h => h ▸ rfl⟩

end Sys2Proof.Machine
end

