-- ==== Sys2Proof/Laws/Exec.lean ====
section
/-! SUPPORT. What each shared operation, and so each instruction, can do: one lemma per shared operation, and one inversion of exec that later proofs split on instead of unfolding the meanings. -/

namespace Sys2Proof.Machine

@[simp] theorem setCrc_self (s : State) : setCrc s.crc s = s := rfl

theorem commandPacket_isOutbound (config : Config) (cmd : Byte) {p : Message} (h : p.length ≤ 254) :
    IsOutbound config (commandPacket cmd p) :=
  .inl ⟨cmd, p, h, rfl⟩

theorem chunkPacket_isOutbound (config : Config) {k : Message} (h1 : 1 ≤ k.length) (h2 : k.length ≤ 252) :
    IsOutbound config (chunkPacket config k) := by
  refine .inr (.inl ⟨k, h1, h2, ?_⟩)
  cases h : config.chunkCrcIncludesLength <;>
    simp [chunkPacket, chunkFramed, chunkCovered, chunkCover, lengthByte, h]

/-- FRAME_CMD either faults or emits its packet (41_framer.md R121). -/
theorem frameCommand_cases (cmd : Byte) (p : Message) (s : State) :
    (p.length > 254 ∧ frameCommand cmd p s = raiseFault .lengthOverflow s) ∨
    (p.length ≤ 254 ∧
      frameCommand cmd p s = emitPacket (checksum (commandCovered cmd p)) (commandPacket cmd p) s) := by
  unfold frameCommand
  split
  · exact .inl ⟨‹_›, rfl⟩
  · exact .inr ⟨Nat.le_of_not_gt ‹_›, rfl⟩

/-- FRAME_CHUNK either faults or emits its packet (41_framer.md R124). -/
theorem frameOneChunk_cases (k : Message) (s : State) :
    ((k.length = 0 ∨ k.length > 252) ∧ frameOneChunk k s = raiseFault .badChunk s) ∨
    (1 ≤ k.length ∧ k.length ≤ 252 ∧
      frameOneChunk k s = emitPacket (checksum (chunkCovered s.config k)) (chunkPacket s.config k) s) := by
  unfold frameOneChunk
  split
  · exact .inl ⟨‹_›, rfl⟩
  · rename_i h
    simp only [Config.chunkMax] at h
    exact .inr ⟨by omega, by omega, rfl⟩

/-- EMIT_CTRL either faults or emits its byte (41_framer.md R126). -/
theorem emitControl_cases (c : Byte) (s : State) :
    ((c ≠ 0x04#8 ∧ c ≠ 0x05#8) ∧ emitControl c s = raiseFault .badControl s) ∨
    ((c = 0x04#8 ∨ c = 0x05#8) ∧ emitControl c s = emitPacket s.crc [c] s) := by
  unfold emitControl
  split
  · exact .inl ⟨‹_›, rfl⟩
  · rename_i h
    refine .inr ⟨?_, rfl⟩
    by_cases h4 : c = 0x04#8
    · exact .inl h4
    · exact .inr (by_contra fun h5 => h ⟨h4, h5⟩)

/-- The forced persist byte (41_framer.md R133). -/
theorem forcedPersist_cases (a : Word) (p : Byte) :
    (a = 0xFFFFFFFF#32 ∧ (p ≠ 0xFF#8 ∧ p ≠ 0xAA#8) ∧ forcedPersist a p = .none) ∨
    (a = 0xFFFFFFFF#32 ∧ (p = 0xFF#8 ∨ p = 0xAA#8) ∧ forcedPersist a p = .some p) ∨
    (a ≠ 0xFFFFFFFF#32 ∧ forcedPersist a p = .some 0xFF#8) := by
  unfold forcedPersist Config.sentinelAddress Config.persistApplication Config.persistBootloader
  by_cases ha : a = 0xFFFFFFFF#32
  · by_cases hp : p ≠ 0xFF#8 ∧ p ≠ 0xAA#8
    · exact .inl ⟨ha, hp, by rw [if_pos ha, if_pos hp]⟩
    · refine .inr (.inl ⟨ha, ?_, by rw [if_pos ha, if_neg hp]⟩)
      by_cases hF : p = 0xFF#8
      · exact .inl hF
      · exact .inr (by_contra fun hA => hp ⟨hF, hA⟩)
  · exact .inr (.inr ⟨ha, by rw [if_neg ha]⟩)

theorem jumpPayload_length (a : Word) (p : Byte) : (jumpPayload a p).length = 5 := rfl

theorem programPayload_length (x y z : Byte) (a n : Word) : (programPayload x y z a n).length = 11 := rfl

/-- Everything an operation can do: fault; or write `crc` and answer a result that is no fault; or write `crc` and emit one
outbound message; or deliver an inbound message. `crc` may be written with the value it has. -/
inductive Effect (s : State) : Answer → Prop where
  | faults (r : FaultReason) : Effect s (raiseFault r s)
  | answers (r : OpResult) (c : Word) (h : ∀ f, r ≠ .fault f) : Effect s (complete r (setCrc c s))
  | emits (c : Word) (m : Message) (h : IsOutbound s.config m) : Effect s (emitPacket c m s)
  | delivers (m : Message) : Effect s (deliver m s)

theorem frameCommand_effect (cmd : Byte) (p : Message) (s : State) : Effect s (frameCommand cmd p s) := by
  obtain ⟨-, h⟩ | ⟨hp, h⟩ := frameCommand_cases cmd p s <;> rw [h]
  · exact .faults _
  · exact .emits _ _ (commandPacket_isOutbound _ _ hp)

theorem frameOneChunk_effect (k : Message) (s : State) : Effect s (frameOneChunk k s) := by
  obtain ⟨-, h⟩ | ⟨h1, h2, h⟩ := frameOneChunk_cases k s <;> rw [h]
  · exact .faults _
  · exact .emits _ _ (chunkPacket_isOutbound _ h1 h2)

theorem emitControl_effect (c : Byte) (s : State) : Effect s (emitControl c s) := by
  obtain ⟨-, h⟩ | ⟨hc, h⟩ := emitControl_cases c s <;> rw [h]
  · exact .faults _
  · exact .emits _ _ (.inr (.inr (hc.imp (congrArg (fun b => [b])) (congrArg (fun b => [b])))))

theorem frameJumpPacket_effect (a : Word) (p : Byte) (s : State) : Effect s (frameJumpPacket a p s) := by
  unfold frameJumpPacket
  split
  · exact .faults _
  · exact frameCommand_effect _ _ _

theorem answerCheck_effect (k : PacketCheck) (v : Verdict) (s : State) : Effect s (answerCheck k v s) := by
  cases k
  · exact .answers _ s.crc (by simp)
  · exact .answers _ s.crc (by simp)
  · exact .answers _ _ (by simp)
  · exact .answers _ _ (by simp)

/-- Every instruction has one of the four effects. -/
theorem exec_effect (i : Instr) (s : State) : Effect s (exec i s) := by
  cases i
  case crcInit => exact .answers .none _ (by simp)
  case crcFeed b => exact .answers .none _ (by simp)
  case crcRead => exact .answers (.word s.crc) s.crc (by simp)
  case checksum d => exact .answers _ _ (by simp)
  case frameCmd c p => exact frameCommand_effect _ _ _
  case frameChunk k => exact frameOneChunk_effect _ _
  case emitCtrl c => exact emitControl_effect _ _
  case frameGetversion => exact frameCommand_effect 0x00#8 [] s
  case frameErase a b => exact frameCommand_effect 0x01#8 (erasePayload a b) s
  case frameProgramHdr x y z a n => exact frameCommand_effect 0x02#8 (programPayload x y z a n) s
  case frameJump a p => exact frameJumpPacket_effect _ _ _
  case deframeCmd m => exact answerCheck_effect _ _ _
  case deframeChunk m => exact answerCheck_effect _ _ _
  case classify m => exact .answers (.event (classify m)) s.crc (by simp)
  case statusRead => exact .answers (.status (statusWord s)) s.crc (by simp)
  case reservedF => exact .faults _
  case pktGetversion => exact frameCommand_effect 0x00#8 [] s
  case pktEraseflash a b => exact frameCommand_effect 0x01#8 (erasePayload a b) s
  case pktFlashprogram x y z a n => exact frameCommand_effect 0x02#8 (programPayload x y z a n) s
  case pktJumptoaddress a p => exact frameJumpPacket_effect _ _ _
  case pktCommandOther c p => exact frameCommand_effect _ _ _
  case pktChunk k => exact frameOneChunk_effect _ _
  case ctrlRequestAcknowledge => exact emitControl_effect 0x04#8 s
  case ctrlRequestVersion => exact emitControl_effect 0x05#8 s
  case rspAcknowledge => exact .delivers _
  case rspNegativeAcknowledge => exact .delivers _
  case rspVersionReport x y z => exact .delivers _
  case rspUnrecognized m => exact .delivers _

end Sys2Proof.Machine
end

