-- ==== Sys2Proof/Laws/PerInstr.lean ====
section
/-! SUPPORT. Facts about every instruction as syntax, one lemma per constructor. -/

namespace Sys2Proof.Laws.TableFormat

/-- The `format` column of spec/opcode_table.json: `none` for an operation request. -/
def rowFormat : Instr → Option WireFormat
  | .crcInit => none
  | .crcFeed _ => none
  | .crcRead => none
  | .checksum _ => none
  | .frameCmd _ _ => none
  | .frameChunk _ => none
  | .emitCtrl _ => none
  | .frameGetversion => none
  | .frameErase _ _ => none
  | .frameProgramHdr _ _ _ _ _ => none
  | .frameJump _ _ => none
  | .deframeCmd _ => none
  | .deframeChunk _ => none
  | .classify _ => none
  | .statusRead => none
  | .reservedF => none
  | .pktGetversion => some .command
  | .pktEraseflash _ _ => some .command
  | .pktFlashprogram _ _ _ _ _ => some .command
  | .pktJumptoaddress _ _ => some .command
  | .pktCommandOther _ _ => some .command
  | .pktChunk _ => some .chunk
  | .ctrlRequestAcknowledge => some .control
  | .ctrlRequestVersion => some .control
  | .rspAcknowledge => some .response
  | .rspNegativeAcknowledge => some .response
  | .rspVersionReport _ _ _ => some .response
  | .rspUnrecognized _ => some .response

/-- The format of a code. -/
def codeFormat : Code → Option WireFormat
  | .request _ => none
  | .wire format _ => some format

/-- The encoder puts every instruction into its row's format. -/
def Statement (i : Instr) : Prop := ∀ config : Config, codeFormat (encode config i) = rowFormat i

theorem crcInit : Statement .crcInit := fun _ => rfl
theorem crcFeed (b : Byte) : Statement (.crcFeed b) := fun _ => rfl
theorem crcRead : Statement .crcRead := fun _ => rfl
theorem checksum (d : Message) : Statement (.checksum d) := fun _ => rfl
theorem frameCmd (c : Byte) (p : Message) : Statement (.frameCmd c p) := fun _ => rfl
theorem frameChunk (k : Message) : Statement (.frameChunk k) := fun _ => rfl
theorem emitCtrl (c : Byte) : Statement (.emitCtrl c) := fun _ => rfl
theorem frameGetversion : Statement .frameGetversion := fun _ => rfl
theorem frameErase (s n : Byte) : Statement (.frameErase s n) := fun _ => rfl
theorem frameProgramHdr (x y z : Byte) (a n : Word) : Statement (.frameProgramHdr x y z a n) := fun _ => rfl
theorem frameJump (a : Word) (p : Byte) : Statement (.frameJump a p) := fun _ => rfl
theorem deframeCmd (m : Message) : Statement (.deframeCmd m) := fun _ => rfl
theorem deframeChunk (m : Message) : Statement (.deframeChunk m) := fun _ => rfl
theorem classify (m : Message) : Statement (.classify m) := fun _ => rfl
theorem statusRead : Statement .statusRead := fun _ => rfl
theorem reservedF : Statement .reservedF := fun _ => rfl
theorem pktGetversion : Statement .pktGetversion := fun _ => rfl
theorem pktEraseflash (s n : Byte) : Statement (.pktEraseflash s n) := fun _ => rfl
theorem pktFlashprogram (x y z : Byte) (a n : Word) : Statement (.pktFlashprogram x y z a n) := fun _ => rfl
theorem pktJumptoaddress (a : Word) (p : Byte) : Statement (.pktJumptoaddress a p) := fun _ => rfl
theorem pktCommandOther (c : Byte) (p : Message) : Statement (.pktCommandOther c p) := fun _ => rfl
theorem pktChunk (k : Message) : Statement (.pktChunk k) := fun _ => rfl
theorem ctrlRequestAcknowledge : Statement .ctrlRequestAcknowledge := fun _ => rfl
theorem ctrlRequestVersion : Statement .ctrlRequestVersion := fun _ => rfl
theorem rspAcknowledge : Statement .rspAcknowledge := fun _ => rfl
theorem rspNegativeAcknowledge : Statement .rspNegativeAcknowledge := fun _ => rfl
theorem rspVersionReport (x y z : Byte) : Statement (.rspVersionReport x y z) := fun _ => rfl
theorem rspUnrecognized (m : Message) : Statement (.rspUnrecognized m) := fun _ => rfl

end Sys2Proof.Laws.TableFormat
end

