-- ==== Sys2Proof/Laws/Step.lean ====
section
/-! SUPPORT. What a step does with its first input, and what a coded input can do: every code, decodable or not, has one of the effects of an operation. -/

namespace Sys2Proof.Machine

theorem step_nil {s : State} (h : s.inputs = []) : step s = .next s := by
  simp only [step, takeInput, h]

theorem step_cons {s : State} {i : Input} {rest : List Input} (h : s.inputs = i :: rest) :
    step s = runInput i (setInputs rest s) := by
  simp only [step, takeInput, h]

/-- A code that decodes to `i` runs `i`. -/
theorem runCode_ok {s : State} {c : Code} {i : Instr} (h : decode s.config c = .ok i) : runCode c s = exec i s := by
  cases c with
  | request r => cases h; rfl
  | wire f m =>
    change decodeWire s.config f m = .ok i at h
    simp only [runCode, h]

/-- A message that does not decode is answered as log 8 says. -/
theorem runCode_error {s : State} {f : WireFormat} {m : Message} {e : WireError}
    (h : decode s.config (.wire f m) = .error e) : runCode (.wire f m) s = runRejected f m s := by
  change decodeWire s.config f m = .error e at h
  simp only [runCode, h]

theorem runRejected_effect (f : WireFormat) (m : Message) (s : State) : Effect s (runRejected f m s) := by
  cases f with
  | command => exact answerCheck_effect _ _ _
  | chunk => exact answerCheck_effect _ _ _
  | control => exact .faults _
  | response => exact .delivers _

/-- A coded input has one of the four effects of an operation. -/
theorem runCode_effect (c : Code) (s : State) : Effect s (runCode c s) := by
  cases h : decode s.config c with
  | ok i => rw [runCode_ok h]; exact exec_effect i s
  | error e =>
    cases c with
    | request r => cases h
    | wire f m => rw [runCode_error h]; exact runRejected_effect f m s

/-- Every operation answers a next state. -/
theorem exec_next (i : Instr) (s : State) : ∃ t, exec i s = .next t := by
  generalize hA : exec i s = A
  have he := exec_effect i s
  rw [hA] at he
  cases he <;> exact ⟨_, rfl⟩

/-- So an operation the host issues goes on in the state after it. -/
theorem issue_next (i : Instr) (s : State) (andThen : State → State) :
    ∃ t, exec i s = .next t ∧ issue i s andThen = .next (andThen t) := by
  obtain ⟨t, h⟩ := exec_next i s
  exact ⟨t, h, by simp only [issue, h]⟩

end Sys2Proof.Machine
end

