-- ==== Sys2Proof/Tests/Slice0.lean ====
section
/-! SUPPORT. Tests of the model, expected values from 95_test_vectors.md and the examples of the rules, and for each statement with hypotheses a witness that meets them. -/

namespace Sys2Proof.Tests

open Sys2Proof Machine

-- Helpers

/-- The next state of an answer. -/
def nextOf : Answer → Option State
  | .next t => some t
  | .fault _ => none
  | .refused _ => none

/-- The state after an operation. -/
def after (i : Instr) (s : State) : Option State := nextOf (exec i s)

/-- The state after a step. -/
def stepped (s : State) : Option State := nextOf (step s)

/-- The state after `n` steps. -/
def ran (n : Nat) (s : State) : Option State := nextOf (Host.Core.run core n s)

/-- Reset, with `crc = c`. -/
def withCrc (c : Word) : State := { State.reset with crc := c }

/-- Reset, with `CHUNK_CRC_INCLUDES_LENGTH = true`. -/
def covering : State := { State.reset with config := { chunkCrcIncludesLength := true } }

/-- Reset, with these inputs. -/
def given (l : List Input) : State := { State.reset with inputs := l }

/-- `n` zero bytes. -/
def zeros (n : Nat) : Message := List.replicate n 0#8

/-- `00 01 02 …`, `n` bytes. -/
def ramp (n : Nat) : Message := (List.range n).map (BitVec.ofNat 8)

/-- The checksum left, the last message and the last result of an operation. -/
def seen (i : Instr) (s : State) : Option (Word × Option Message × Option OpResult) :=
  (after i s).map fun t => (t.crc, t.txq.getLast?, t.results.getLast?)

-- Well-formedness: each check refuses an ill-formed term, and accepts the terms next to it (30_encoding.md R61, R62, R67 to R69)

theorem test_wf_jump_sentinel_persist : Instr.wf (.pktJumptoaddress 0xFFFFFFFF#32 0x00#8) = false ∧
    Instr.wf (.pktJumptoaddress 0xFFFFFFFF#32 0xAA#8) = true := by decide
theorem test_wf_jump_specific_persist : Instr.wf (.pktJumptoaddress 0x08008000#32 0xAA#8) = false ∧
    Instr.wf (.pktJumptoaddress 0x08008000#32 0xFF#8) = true := by decide
theorem test_wf_other_is_no_kind_packet : Instr.wf (.pktCommandOther 0x00#8 []) = false ∧
    Instr.wf (.pktCommandOther 0x01#8 (zeros 2)) = false ∧ Instr.wf (.pktCommandOther 0x02#8 (zeros 11)) = false ∧
    Instr.wf (.pktCommandOther 0x03#8 [0xFF#8, 0xFF#8, 0xFF#8, 0xFF#8, 0xAA#8]) = false ∧
    Instr.wf (.pktCommandOther 0x03#8 [0xFF#8, 0xFF#8, 0xFF#8, 0xFF#8, 0x00#8]) = true ∧
    Instr.wf (.pktCommandOther 0x04#8 []) = true := by decide
theorem test_wf_other_payload : Instr.wf (.pktCommandOther 0x42#8 (zeros 255)) = false ∧
    Instr.wf (.pktCommandOther 0x42#8 (zeros 254)) = true := by decide +kernel
theorem test_wf_chunk_empty : Instr.wf (.pktChunk []) = false ∧ Instr.wf (.pktChunk [0x00#8]) = true := by decide
theorem test_wf_chunk_long : Instr.wf (.pktChunk (zeros 253)) = false ∧ Instr.wf (.pktChunk (zeros 252)) = true := by
  decide +kernel
theorem test_wf_unrecognized_acknowledge : Instr.wf (.rspUnrecognized [0xFF#8]) = false := by decide
theorem test_wf_unrecognized_negative : Instr.wf (.rspUnrecognized [0x01#8]) = false := by decide
theorem test_wf_unrecognized_three : Instr.wf (.rspUnrecognized [0x00#8, 0x00#8, 0x00#8]) = false ∧
    Instr.wf (.rspUnrecognized []) = true := by decide

-- Decoding: every constructor from a word written out from 30_encoding.md. Requests carry other operands in every unused field (R71)

/-- A request with all its fields set. -/
def full (op : Nibble) : Request := ⟨op, 0x11#8, 0x22#8, 0x33#8, 0x44556677#32, 0x8899AABB#32, [0xCC#8, 0xDD#8]⟩

theorem test_decode_engine_requests :
    decode Config.default (.request (full 0x0#4)) = .ok .crcInit ∧
    decode Config.default (.request (full 0x1#4)) = .ok (.crcFeed 0x11#8) ∧
    decode Config.default (.request (full 0x2#4)) = .ok .crcRead ∧
    decode Config.default (.request (full 0x3#4)) = .ok (.checksum [0xCC#8, 0xDD#8]) ∧
    decode Config.default (.request (full 0xE#4)) = .ok .statusRead ∧
    decode Config.default (.request (full 0xF#4)) = .ok .reservedF := ⟨rfl, rfl, rfl, rfl, rfl, rfl⟩
theorem test_decode_framer_requests :
    decode Config.default (.request (full 0x4#4)) = .ok (.frameCmd 0x11#8 [0xCC#8, 0xDD#8]) ∧
    decode Config.default (.request (full 0x5#4)) = .ok (.frameChunk [0xCC#8, 0xDD#8]) ∧
    decode Config.default (.request (full 0x6#4)) = .ok (.emitCtrl 0x11#8) ∧
    decode Config.default (.request (full 0x7#4)) = .ok .frameGetversion ∧
    decode Config.default (.request (full 0x8#4)) = .ok (.frameErase 0x11#8 0x22#8) ∧
    decode Config.default (.request (full 0x9#4)) =
      .ok (.frameProgramHdr 0x11#8 0x22#8 0x33#8 0x44556677#32 0x8899AABB#32) ∧
    decode Config.default (.request (full 0xA#4)) = .ok (.frameJump 0x44556677#32 0x11#8) :=
  ⟨rfl, rfl, rfl, rfl, rfl, rfl, rfl⟩
theorem test_decode_deframer_requests :
    decode Config.default (.request (full 0xB#4)) = .ok (.deframeCmd [0xCC#8, 0xDD#8]) ∧
    decode Config.default (.request (full 0xC#4)) = .ok (.deframeChunk [0xCC#8, 0xDD#8]) ∧
    decode Config.default (.request (full 0xD#4)) = .ok (.classify [0xCC#8, 0xDD#8]) := ⟨rfl, rfl, rfl⟩

/-- What the decoder reads from a message. -/
def read (config : Config) (format : WireFormat) (m : Message) : Option Instr :=
  (decode config (.wire format m)).toOption

/-- Why the decoder rejects a message. -/
def rejects (format : WireFormat) (m : Message) : Option WireError :=
  match decode Config.default (.wire format m) with
  | .ok _ => none
  | .error e => some e

-- V53, V54
theorem test_decode_pktGetversion : read Config.default .command [0x01#8, 0x00#8, 0x20#8, 0x09#8, 0xDC#8, 0xD4#8] =
    some .pktGetversion := by decide +kernel
theorem test_decode_pktEraseflash :
    read Config.default .command [0x03#8, 0x01#8, 0x02#8, 0x03#8, 0x05#8, 0x59#8, 0x86#8, 0xD5#8] =
      some (.pktEraseflash 0x02#8 0x03#8) := by decide +kernel
-- V70, V77, V76
theorem test_decode_pktFlashprogram :
    read Config.default .command [0x0C#8, 0x02#8, 0x01#8, 0x02#8, 0x03#8, 0x08#8, 0x00#8, 0x80#8, 0x00#8, 0x00#8, 0x00#8,
      0x01#8, 0x2C#8, 0x24#8, 0xD7#8, 0x75#8, 0xF6#8] =
      some (.pktFlashprogram 0x01#8 0x02#8 0x03#8 0x08008000#32 0x0000012C#32) := by decide +kernel
theorem test_decode_pktJumptoaddress :
    read Config.default .command [0x06#8, 0x03#8, 0x08#8, 0x00#8, 0x80#8, 0x00#8, 0xFF#8, 0x4B#8, 0xF7#8, 0x6F#8, 0xF9#8] =
      some (.pktJumptoaddress 0x08008000#32 0xFF#8) ∧
    read Config.default .command [0x06#8, 0x03#8, 0xFF#8, 0xFF#8, 0xFF#8, 0xFF#8, 0xAA#8, 0xAC#8, 0x9A#8, 0x05#8, 0xF0#8] =
      some (.pktJumptoaddress 0xFFFFFFFF#32 0xAA#8) := by decide +kernel
-- W2, V31
theorem test_decode_pktCommandOther :
    read Config.default .command [0x04#8, 0x42#8, 0x10#8, 0x20#8, 0x30#8, 0xD9#8, 0x5C#8, 0x6D#8, 0x22#8] =
      some (.pktCommandOther 0x42#8 [0x10#8, 0x20#8, 0x30#8]) ∧
    read Config.default .command [0x01#8, 0x04#8, 0x33#8, 0x0D#8, 0xAA#8, 0x08#8] = some (.pktCommandOther 0x04#8 []) := by
  decide +kernel
-- V37, V38, V40
theorem test_decode_pktChunk :
    read Config.default .chunk [0x04#8, 0xDE#8, 0xAD#8, 0xBE#8, 0xEF#8, 0x79#8, 0x8D#8, 0x88#8, 0x76#8] =
      some (.pktChunk [0xDE#8, 0xAD#8, 0xBE#8, 0xEF#8]) ∧
    read covering.config .chunk [0x04#8, 0xDE#8, 0xAD#8, 0xBE#8, 0xEF#8, 0x3D#8, 0xCA#8, 0x3B#8, 0xC5#8] =
      some (.pktChunk [0xDE#8, 0xAD#8, 0xBE#8, 0xEF#8]) := by decide +kernel
theorem test_decode_same_bytes_by_context :
    read covering.config .chunk [0x01#8, 0x00#8, 0x20#8, 0x09#8, 0xDC#8, 0xD4#8] = some (.pktChunk [0x00#8]) := by
  decide +kernel
-- 30_encoding.md R65, R68
theorem test_decode_control : read Config.default .control [0x04#8] = some .ctrlRequestAcknowledge ∧
    read Config.default .control [0x05#8] = some .ctrlRequestVersion := by decide
theorem test_decode_response : read Config.default .response [0xFF#8] = some .rspAcknowledge ∧
    read Config.default .response [0x01#8] = some .rspNegativeAcknowledge ∧
    read Config.default .response [0x01#8, 0x02#8, 0x03#8] = some (.rspVersionReport 0x01#8 0x02#8 0x03#8) ∧
    read Config.default .response [0xFF#8, 0xFF#8, 0xFF#8] = some (.rspVersionReport 0xFF#8 0xFF#8 0xFF#8) ∧
    read Config.default .response [] = some (.rspUnrecognized []) ∧
    read Config.default .response [0x00#8] = some (.rspUnrecognized [0x00#8]) := by decide
-- The rejections: V97, V94, V92, R65, V112, V114
theorem test_reject_command :
    rejects .command [0x01#8, 0x00#8, 0x20#8, 0x09#8, 0xDC#8] = some .short ∧
    rejects .command [0x02#8, 0x01#8, 0xFF#8, 0xFF#8, 0x1A#8, 0x14#8, 0x09#8, 0xF1#8] = some .badLength ∧
    rejects .command [0x03#8, 0x00#8, 0xFF#8, 0xFF#8, 0x1A#8, 0x14#8, 0x09#8, 0xF1#8] = some .badChecksum := by
  decide +kernel
-- R121 frames any payload under any command byte: V35's command with a short payload, and R133's refused and forced bytes (log 8)
theorem test_decode_kind_with_other_payload :
    read Config.default .command (commandPacket 0x00#8 [0x00#8]) = some (.pktCommandOther 0x00#8 [0x00#8]) ∧
    read Config.default .command (commandPacket 0x01#8 [0x00#8]) = some (.pktCommandOther 0x01#8 [0x00#8]) ∧
    read Config.default .command (commandPacket 0x02#8 []) = some (.pktCommandOther 0x02#8 []) ∧
    read Config.default .command (commandPacket 0x03#8 []) = some (.pktCommandOther 0x03#8 []) := by decide +kernel
theorem test_decode_kind_with_other_persist :
    read Config.default .command (commandPacket 0x03#8 [0xFF#8, 0xFF#8, 0xFF#8, 0xFF#8, 0x00#8]) =
      some (.pktCommandOther 0x03#8 [0xFF#8, 0xFF#8, 0xFF#8, 0xFF#8, 0x00#8]) ∧
    read Config.default .command (commandPacket 0x03#8 [0x08#8, 0x00#8, 0x80#8, 0x00#8, 0xAA#8]) =
      some (.pktCommandOther 0x03#8 [0x08#8, 0x00#8, 0x80#8, 0x00#8, 0xAA#8]) := by decide +kernel
theorem test_reject_control : rejects .control [0x06#8] = some .notControl ∧ rejects .control [] = some .notControl ∧
    rejects .control [0x04#8, 0x04#8] = some .notControl := by decide
theorem test_reject_chunk : rejects .chunk ([0xFD#8] ++ zeros 257) = some .badLength ∧
    rejects .chunk (zeros 5) = some .short := by decide +kernel
-- Log 7
theorem test_table_words : decodeTableWord 8 0x0 = some .crcInit ∧ decodeTableWord 8 0x9 =
      some (.frameProgramHdr 0x00#8 0x00#8 0x00#8 0x00000000#32 0x00000000#32) ∧
    decodeTableWord 8 0xF = some .reservedF ∧ decodeTableWord 8 0xFF = some .rspAcknowledge ∧
    decodeTableWord 24 0x030201 = some (.rspVersionReport 0x01#8 0x02#8 0x03#8) ∧
    decodeTableWord 0 0 = some (.rspUnrecognized []) := by decide
theorem test_fetch_word : (stepped (State.reset.withFetchWord 8 0xF)).map (·.faultReason) = some 1#4 ∧
    (stepped (State.reset.withFetchWord 8 0xFF)).map (·.host.slots.acknowledge) = some true := by decide

-- The operations, one step each: 95_test_vectors.md section 2

-- V15
theorem test_crcInit : after .crcInit (withCrc 0x12345678#32) = some { State.reset with results := [.none] } := by decide
-- V16; R111 corner
theorem test_crcFeed : seen (.crcFeed 0x01#8) State.reset = some (0xC3C5C0CC#32, none, some .none) := by decide +kernel
theorem test_crcFeed_zero : seen (.crcFeed 0x00#8) (withCrc 0x80000000#32) = some (0xA6E63D1D#32, none, some .none) := by
  decide +kernel
-- R112
theorem test_crcRead : seen .crcRead (withCrc 0x2009DCD4#32) =
    some (0x2009DCD4#32, none, some (.word 0x2009DCD4#32)) := by decide
-- V20, V19
theorem test_checksum : seen (.checksum [0x01#8, 0x00#8]) (withCrc 0xDEADBEEF#32) =
    some (0x2009DCD4#32, none, some (.word 0x2009DCD4#32)) := by decide +kernel
theorem test_checksum_empty : seen (.checksum []) (withCrc 0x12345678#32) =
    some (0xFFFFFFFF#32, none, some (.word 0xFFFFFFFF#32)) := by decide
-- W2, V36
theorem test_frameCmd : seen (.frameCmd 0x42#8 [0x10#8, 0x20#8, 0x30#8]) State.reset = some (0xD95C6D22#32,
    some [0x04#8, 0x42#8, 0x10#8, 0x20#8, 0x30#8, 0xD9#8, 0x5C#8, 0x6D#8, 0x22#8], some .none) := by decide +kernel
theorem test_frameCmd_overflow : after (.frameCmd 0x00#8 (zeros 255)) State.reset =
    some { State.reset with fault := 1#1, faultReason := 2#4, results := [.fault .lengthOverflow] } := by decide +kernel
-- V37, V38
theorem test_frameChunk : seen (.frameChunk [0xDE#8, 0xAD#8, 0xBE#8, 0xEF#8]) State.reset = some (0x798D8876#32,
    some [0x04#8, 0xDE#8, 0xAD#8, 0xBE#8, 0xEF#8, 0x79#8, 0x8D#8, 0x88#8, 0x76#8], some .none) := by decide +kernel
theorem test_frameChunk_covering : seen (.frameChunk [0xDE#8, 0xAD#8, 0xBE#8, 0xEF#8]) covering = some (0x3DCA3BC5#32,
    some [0x04#8, 0xDE#8, 0xAD#8, 0xBE#8, 0xEF#8, 0x3D#8, 0xCA#8, 0x3B#8, 0xC5#8], some .none) := by decide +kernel
-- V51, V52
theorem test_emitCtrl : seen (.emitCtrl 0x05#8) (withCrc 0x12345678#32) = some (0x12345678#32, some [0x05#8], some .none) := by
  decide
theorem test_emitCtrl_bad : after (.emitCtrl 0x00#8) State.reset =
    some { State.reset with fault := 1#1, faultReason := 4#4, results := [.fault .badControl] } := by decide
-- V53
theorem test_frameGetversion : seen .frameGetversion State.reset = some (0x2009DCD4#32,
    some [0x01#8, 0x00#8, 0x20#8, 0x09#8, 0xDC#8, 0xD4#8], some .none) := by decide +kernel
-- V57, V58
theorem test_frameErase : seen (.frameErase 0xFF#8 0x00#8) State.reset = some (0xABE34945#32,
    some [0x03#8, 0x01#8, 0xFF#8, 0x00#8, 0xAB#8, 0xE3#8, 0x49#8, 0x45#8], some .none) := by decide +kernel
theorem test_frameErase_swapped : seen (.frameErase 0x00#8 0xFF#8) State.reset = some (0x2BF72FA2#32,
    some [0x03#8, 0x01#8, 0x00#8, 0xFF#8, 0x2B#8, 0xF7#8, 0x2F#8, 0xA2#8], some .none) := by decide +kernel
-- V71
theorem test_frameProgramHdr :
    seen (.frameProgramHdr 0x01#8 0x00#8 0x00#8 0x08004000#32 0x000000FD#32) State.reset = some (0xEBEFF9A4#32,
      some [0x0C#8, 0x02#8, 0x01#8, 0x00#8, 0x00#8, 0x08#8, 0x00#8, 0x40#8, 0x00#8, 0x00#8, 0x00#8, 0x00#8, 0xFD#8,
        0xEB#8, 0xEF#8, 0xF9#8, 0xA4#8], some .none) := by decide +kernel
-- V80, V81
theorem test_frameJump_forced : seen (.frameJump 0xFFFFFFFE#32 0x00#8) State.reset = some (0x8AC5A211#32,
    some [0x06#8, 0x03#8, 0xFF#8, 0xFF#8, 0xFF#8, 0xFE#8, 0xFF#8, 0x8A#8, 0xC5#8, 0xA2#8, 0x11#8], some .none) := by
  decide +kernel
theorem test_frameJump_bad : after (.frameJump 0xFFFFFFFF#32 0x00#8) State.reset =
    some { State.reset with fault := 1#1, faultReason := 5#4, results := [.fault .badPersist] } := by decide +kernel
-- V90, V100
theorem test_deframeCmd : seen (.deframeCmd [0x03#8, 0x01#8, 0xFF#8, 0xFF#8, 0x1A#8, 0x14#8, 0x09#8, 0xF1#8]) State.reset =
    some (0x1A1409F1#32, none, some (.verdict (.okCommand 0x01#8 [0xFF#8, 0xFF#8]))) := by decide +kernel
theorem test_deframeCmd_length :
    seen (.deframeCmd [0x09#8, 0x01#8, 0x02#8, 0x03#8, 0x04#8, 0x05#8, 0x06#8]) (withCrc 0x12345678#32) =
      some (0x12345678#32, none, some (.verdict .badLength)) := by decide +kernel
-- V106, V107
theorem test_deframeChunk :
    seen (.deframeChunk [0x04#8, 0xDE#8, 0xAD#8, 0xBE#8, 0xEF#8, 0x3D#8, 0xCA#8, 0x3B#8, 0xC5#8]) State.reset =
      some (0x798D8876#32, none, some (.verdict .badChecksum)) := by decide +kernel
theorem test_deframeChunk_covering :
    seen (.deframeChunk [0x04#8, 0xDE#8, 0xAD#8, 0xBE#8, 0xEF#8, 0x3D#8, 0xCA#8, 0x3B#8, 0xC5#8]) covering =
      some (0x3DCA3BC5#32, none, some (.verdict (.okChunk [0xDE#8, 0xAD#8, 0xBE#8, 0xEF#8]))) := by decide +kernel
-- V62, V67
theorem test_classify : seen (.classify [0x01#8, 0x02#8, 0x03#8]) State.reset =
    some (0xFFFFFFFF#32, none, some (.event (.versionReport 0x01#8 0x02#8 0x03#8))) := by decide
theorem test_classify_two : seen (.classify [0xFF#8, 0xFF#8]) State.reset =
    some (0xFFFFFFFF#32, none, some (.event (.unrecognized [0xFF#8, 0xFF#8]))) := by decide
-- V121, V120
theorem test_statusRead : seen .statusRead { State.reset with fault := 1#1, faultReason := 5#4 } =
    some (0xFFFFFFFF#32, none, some (.status 0x00000051#32)) := by decide
theorem test_reservedF : after .reservedF State.reset =
    some { State.reset with fault := 1#1, faultReason := 1#4, results := [.fault .illegalOp] } := by decide
theorem test_first_reason_kept : (after (.frameChunk []) { State.reset with fault := 1#1, faultReason := 4#4 }).map
    (fun t => (t.faultReason, t.results)) = some (4#4, [.fault .badChunk]) := by decide
-- The wire codes emit the packets of V53, V56, V72, V75, W2, V39, V50, V51 (log 1)
theorem test_pktGetversion : seen .pktGetversion State.reset = some (0x2009DCD4#32,
    some [0x01#8, 0x00#8, 0x20#8, 0x09#8, 0xDC#8, 0xD4#8], some .none) := by decide +kernel
theorem test_pktEraseflash : seen (.pktEraseflash 0x00#8 0x01#8) State.reset = some (0x9EC172A1#32,
    some [0x03#8, 0x01#8, 0x00#8, 0x01#8, 0x9E#8, 0xC1#8, 0x72#8, 0xA1#8], some .none) := by decide +kernel
theorem test_pktFlashprogram :
    seen (.pktFlashprogram 0x01#8 0x00#8 0x00#8 0x08004000#32 0x00000005#32) State.reset = some (0x445FE915#32,
      some [0x0C#8, 0x02#8, 0x01#8, 0x00#8, 0x00#8, 0x08#8, 0x00#8, 0x40#8, 0x00#8, 0x00#8, 0x00#8, 0x00#8, 0x05#8,
        0x44#8, 0x5F#8, 0xE9#8, 0x15#8], some .none) := by decide +kernel
theorem test_pktJumptoaddress : seen (.pktJumptoaddress 0xFFFFFFFF#32 0xFF#8) State.reset = some (0xC3C8C59C#32,
    some [0x06#8, 0x03#8, 0xFF#8, 0xFF#8, 0xFF#8, 0xFF#8, 0xFF#8, 0xC3#8, 0xC8#8, 0xC5#8, 0x9C#8], some .none) := by
  decide +kernel
theorem test_pktCommandOther : seen (.pktCommandOther 0x42#8 [0x10#8, 0x20#8, 0x30#8]) State.reset = some (0xD95C6D22#32,
    some [0x04#8, 0x42#8, 0x10#8, 0x20#8, 0x30#8, 0xD9#8, 0x5C#8, 0x6D#8, 0x22#8], some .none) := by decide +kernel
theorem test_pktChunk : seen (.pktChunk [0x00#8]) State.reset =
    some (0xC704DD7B#32, some [0x01#8, 0x00#8, 0xC7#8, 0x04#8, 0xDD#8, 0x7B#8], some .none) := by decide +kernel
theorem test_ctrl : seen .ctrlRequestAcknowledge State.reset = some (0xFFFFFFFF#32, some [0x04#8], some .none) ∧
    seen .ctrlRequestVersion State.reset = some (0xFFFFFFFF#32, some [0x05#8], some .none) := by decide
/-- The slots after an operation. -/
def slotsAfter (i : Instr) (s : State) : Option Slots := (after i s).map (·.host.slots)
-- R160, R212
theorem test_rsp_acknowledge : slotsAfter .rspAcknowledge State.reset = some { Slots.clear with acknowledge := true } ∧
    slotsAfter .rspNegativeAcknowledge State.reset = some { Slots.clear with negativeAcknowledge := true } := by decide
theorem test_rsp_bytes : slotsAfter (.rspVersionReport 0x01#8 0x02#8 0x03#8) State.reset =
      some { Slots.clear with versionReport := some (0x01#8, 0x02#8, 0x03#8) } ∧
    slotsAfter (.rspUnrecognized [0x00#8, 0x00#8]) State.reset =
      some { Slots.clear with unrecognized := some [0x00#8, 0x00#8] } := by decide

-- The functions: V1, V5, V11, W4, R73, R74, R76

theorem test_shift_tests_before_shifting : shiftStep 0xFFFFFFFF#32 = 0xFB3EE249#32 ∧ crcStep8 0xFFFFFFFF#32 0x00#8 = 0x4E08BFB4#32 := by
  decide +kernel
theorem test_crcWord : crcWord 0x00000000#32 0x00000080#32 = 0x690CE0EE#32 ∧ checksum [0xFF#8, 0xFF#8, 0xFF#8, 0xFF#8] = 0x6238C101#32 := by
  decide +kernel
theorem test_chunk_sizes : (chunks []).length = 0 ∧ (chunks (ramp 252)).map List.length = [252] ∧
    (chunks (ramp 253)).map List.length = [252, 1] ∧ (chunks (zeros 505)).map List.length = [252, 252, 1] := by decide +kernel
theorem test_codes : Verdict.code .badChecksum = 3 ∧ Verdict.code .short = 1 ∧
    ResponseEvent.code (.versionReport 0x00#8 0x00#8 0x00#8) = 2 := by decide
theorem test_assembly :
    assembly (.frameProgramHdr 0x01#8 0x02#8 0x03#8 0x08008000#32 0x0000012C#32) =
      some "FRAME_PROGRAM_HDR 0x01, 0x02, 0x03, 0x08008000, 0x0000012C" ∧
    assembly (.frameCmd 0x01#8 [0xFF#8, 0xFF#8]) = some "FRAME_CMD 0x01, [FF FF]" ∧
    assembly .crcInit = some "CRC_INIT" := by decide +kernel

-- The inputs, one step each (10_state.md R23, 70_reset_and_hazards.md R251, R252; 60_exceptions.md R211 to R223)

theorem test_reset_input : stepped { State.reset with
      crc := 1#32, fault := 1#1, faultReason := 4#4, txq := [[0x04#8]], config := covering.config, inputs := [.reset] } =
    some covering := by decide
theorem test_idle_step : stepped (withCrc 1#32) = some (withCrc 1#32) := by decide
theorem test_publish_empty : stepped (given [.publish]) = some State.reset := by decide
theorem test_start : (stepped (given [.start .getVersion])).map (·.host.todo) = some [.getVersion] := by decide

/-- The orchestration path at phase `p`, with these slots and inputs. -/
def hostAt (p : Phase) (slots : Slots) (l : List Input) : State :=
  { State.reset with
    inputs := l,
    host := { HostEnv.start with
      phase := p, slots := slots, packet := [0x05#8], attemptsLeft := 2,
      plan := { remaining := [], poll := false, limit := 5, askVersion := false } } }

theorem test_success_reported : (stepped (hostAt .frame Slots.clear [.advance])).map
    (fun t => (t.host.phase, t.host.reports)) = some (.idle, [.success]) := by decide
-- W5 (e): after the only attempt
theorem test_exhausted_reported : (stepped { hostAt .transmit Slots.clear [.advance] with
      host := { (hostAt .transmit Slots.clear []).host with attemptsLeft := 0 } }).map (·.host.reports) =
    some [.failure .retriesExhausted] := by decide
-- R220: the last wait of GetVersion
theorem test_version_reported : (stepped (hostAt .awaitVersion
      { Slots.clear with versionReport := some (0x01#8, 0x02#8, 0x03#8) } [.advance])).map
    (fun t => (t.host.phase, t.host.reports, t.host.slots)) =
    some (.idle, [.version 0x01#8 0x02#8 0x03#8], Slots.clear) := by decide
theorem test_version_timeout : (stepped (hostAt .awaitVersion Slots.clear [.timeout])).map
    (fun t => (t.host.reports, t.host.elapsedMs)) = some ([.failure .responseTimeout], 5000) := by decide
-- R221: the poll; R220: the version request
theorem test_poll_sends_04 : (stepped (hostAt .poll Slots.clear [.advance])).map
    (fun t => (t.host.sent, t.txq, t.host.phase)) = some ([[0x04#8]], [], .awaitAcknowledge) := by decide
theorem test_version_request_sends_05 : (stepped (hostAt .requestVersion Slots.clear [.advance])).map
    (fun t => (t.host.sent, t.txq, t.host.phase)) = some ([[0x05#8]], [], .awaitVersion) := by decide
theorem test_empty_image_sends_header_only : ((planOf (.flashProgram 0x01#8 0x00#8 0x00#8 0x08004000#32 0#32 [])).remaining) =
    [.frameProgramHdr 0x01#8 0x00#8 0x00#8 0x08004000#32 0#32] := by decide

-- Witnesses: for each statement with hypotheses, states and operands that meet them all, at the boundaries of its clauses

/-- A state unlike reset in every field of CRCF, meeting the invariant. -/
def used : State :=
  { State.reset with
    crc := 0x12345678#32, fault := 1#1, faultReason := 4#4, txq := [[0x04#8]], config := { chunkCrcIncludesLength := true },
    host := { HostEnv.start with sent := [[0x05#8]], phase := .transmit, packet := [0x04#8] } }

theorem control_isOutbound (config : Config) : IsOutbound config [0x04#8] ∧ IsOutbound config [0x05#8] :=
  ⟨.inr (.inr (.inl rfl)), .inr (.inr (.inr rfl))⟩

theorem used_inv : used.Inv := by
  refine ⟨⟨by simp [used], by decide⟩, ?_, ?_, fun _ => (control_isOutbound _).1⟩ <;>
    intro m hm <;> simp only [used, List.mem_singleton] at hm <;> subst hm
  · exact (control_isOutbound _).1
  · exact (control_isOutbound _).2

theorem reset_inv : State.reset.Inv := by
  refine ⟨⟨by simp [State.reset], by decide⟩, ?_, ?_, ?_⟩ <;> simp [State.reset, HostEnv.start, Phase.holdsPacket]

-- ResetSetsEveryPieceOfState, OnlyResetClearsTheStatus
theorem witness_reset : ({ used with inputs := [.reset] } : State).inputs = .reset :: [] := rfl
theorem witness_status_kept : (stepped { used with inputs := [.code (.request (Request.ofOp 0x0#4))] }).map
    (fun t => (t.fault, t.faultReason)) = some (1#1, 4#4) ∧ used.fault = 1#1 ∧ used.faultReason ≠ 0#4 := by decide
-- FaultsArePrecise: with and without an earlier reason
theorem witness_fault_first : (after .reservedF State.reset).map (·.results) = some (State.reset.results ++ [.fault .illegalOp]) := by
  decide
theorem witness_fault_later : (after (.frameChunk []) used).map (fun t => (t.results, t.faultReason)) =
    some (used.results ++ [.fault .badChunk], 4#4) := by decide
-- FaultsAreTheListedOnes: each line on both sides of its boundary
/-- The last result of an operation in the state after reset. -/
def answer (i : Instr) : Option OpResult := (after i State.reset).bind (·.results.getLast?)
theorem witness_line_illegalOp : answer .reservedF = some (.fault .illegalOp) ∧ answer .statusRead = some (.status 0#32) := by decide
theorem witness_line_lengthOverflow : answer (.frameCmd 0x00#8 (zeros 254)) = some .none ∧
    answer (.frameCmd 0x00#8 (zeros 255)) = some (.fault .lengthOverflow) ∧
    answer (.pktCommandOther 0x42#8 (zeros 254)) = some .none ∧
    answer (.pktCommandOther 0x42#8 (zeros 255)) = some (.fault .lengthOverflow) := by decide +kernel
theorem witness_line_badChunk : answer (.frameChunk []) = some (.fault .badChunk) ∧ answer (.frameChunk (zeros 1)) = some .none ∧
    answer (.frameChunk (zeros 252)) = some .none ∧ answer (.frameChunk (zeros 253)) = some (.fault .badChunk) := by
  decide +kernel
theorem witness_line_badChunk_wire : answer (.pktChunk []) = some (.fault .badChunk) ∧ answer (.pktChunk (zeros 1)) = some .none ∧
    answer (.pktChunk (zeros 252)) = some .none ∧ answer (.pktChunk (zeros 253)) = some (.fault .badChunk) := by
  decide +kernel
theorem witness_line_badControl : answer (.emitCtrl 0x03#8) = some (.fault .badControl) ∧ answer (.emitCtrl 0x04#8) = some .none ∧
    answer (.emitCtrl 0x05#8) = some .none ∧ answer (.emitCtrl 0x06#8) = some (.fault .badControl) := by decide
theorem witness_line_badPersist : answer (.frameJump 0xFFFFFFFF#32 0xFE#8) = some (.fault .badPersist) ∧
    answer (.frameJump 0xFFFFFFFF#32 0xAB#8) = some (.fault .badPersist) ∧ answer (.frameJump 0xFFFFFFFF#32 0xAA#8) = some .none ∧
    answer (.frameJump 0xFFFFFFFE#32 0xFE#8) = some .none ∧
    answer (.pktJumptoaddress 0xFFFFFFFF#32 0xFE#8) = some (.fault .badPersist) := by decide +kernel
-- ReservedOpRaisesIllegalOp and every decoding clause: `full` has each op code
theorem witness_ops : ∀ op : Nibble, (full op).op = op := fun _ => rfl
-- StatusDoesNotSteerOperations, EveryOperationAnswersOneResult, StatusChangesOnlyOnAFault
theorem witness_exec_next : (after (.frameErase 0x00#8 0x00#8) used).isSome = true ∧
    (after .crcInit used).map (·.results) = some (used.results ++ [.none]) := by decide +kernel
-- ExpansionPutsEachByteInItsWord
theorem witness_expand : 1 < [0x01#8, 0x02#8].length ∧ ((expand [0x01#8, 0x02#8]).drop 4).take 4 = [0x00#8, 0x00#8, 0x00#8, 0x02#8] := by
  decide
-- CrcReadAnswersTheRegister: a command, a chunk under each parameter
theorem witness_crcRead_after_command : IsFraming .frameGetversion = true ∧ IsOutboundCode .frameGetversion = false ∧
    LeavesCrc .frameGetversion = false ∧ answer .frameGetversion = some .none := by decide +kernel
theorem witness_crcRead_after_chunk : IsFraming (.frameChunk [0x00#8]) = true ∧ IsOutboundCode (.frameChunk [0x00#8]) = false ∧
    LeavesCrc (.frameChunk [0x00#8]) = false ∧ answer (.frameChunk [0x00#8]) = some .none ∧
    (after (.frameChunk [0x00#8]) covering).map (·.results) = some [.none] := by decide +kernel
-- StatusReadAnswersTheStatus
theorem witness_status_clauses : State.reset.fault = 0#1 ∧ State.reset.faultReason = 0#4 ∧ used.fault = 1#1 ∧
    used.faultReason = 4#4 ∧ (after .reservedF used).isSome = true := by decide
-- IncrementalChecksumRun: no byte, two bytes
theorem witness_run_none : ran 1 (given [.code (.request (Request.ofOp 0x0#4))]) =
    some { State.reset with results := [.none] } := by decide
theorem witness_run_two : (ran 3 (given (.code (.request (Request.ofOp 0x0#4)) ::
      [0x01#8, 0x00#8].map (fun b => .code (.request { Request.ofOp 0x1#4 with a := b }))))).map (·.crc) =
    some 0x2009DCD4#32 := by decide +kernel
-- OverwriteBetweenFeedsReplacesCrc: a framing operation, each deframer past the length check with either verdict (V90, V91, V105)
theorem witness_overwrite_frame : IsFraming (.frameErase 0xFF#8 0xFF#8) = true ∧ IsOutboundCode (.frameErase 0xFF#8 0xFF#8) = false ∧
    LeavesCrc (.frameErase 0xFF#8 0xFF#8) = false ∧ answer (.frameErase 0xFF#8 0xFF#8) = some .none := by decide +kernel
theorem witness_overwrite_deframe :
    answer (.deframeCmd [0x03#8, 0x01#8, 0xFF#8, 0xFF#8, 0x1A#8, 0x14#8, 0x09#8, 0xF1#8]) =
      some (.verdict (.okCommand 0x01#8 [0xFF#8, 0xFF#8])) ∧
    answer (.deframeCmd [0x03#8, 0x01#8, 0xFF#8, 0xFF#8, 0x1A#8, 0x14#8, 0x09#8, 0xF0#8]) = some (.verdict .badChecksum) ∧
    answer (.deframeChunk [0x04#8, 0xDE#8, 0xAD#8, 0xBE#8, 0xEF#8, 0x79#8, 0x8D#8, 0x88#8, 0x76#8]) =
      some (.verdict (.okChunk [0xDE#8, 0xAD#8, 0xBE#8, 0xEF#8])) := by decide +kernel
-- FrameCmdEmitsTheCommandPacket, FrameChunkEmitsTheChunkPacket, EmitCtrlEmitsABareByte, JumpPacketForcesPersist
theorem witness_payload_sizes : (zeros 0).length ≤ 254 ∧ (zeros 254).length ≤ 254 ∧ 254 < (zeros 255).length := by decide +kernel
theorem witness_payload_254_is_260_bytes : (after (.frameCmd 0x00#8 (zeros 254)) State.reset).map
    (fun t => t.txq.map List.length) = some [260] := by decide +kernel
theorem witness_chunk_sizes : State.reset.config.chunkCrcIncludesLength = false ∧ covering.config.chunkCrcIncludesLength = true ∧
    (1 ≤ (zeros 1).length ∧ (zeros 252).length ≤ 252) ∧ (zeros 0).length = 0 ∧ 252 < (zeros 253).length := by decide +kernel
theorem witness_control_values : (0x03#8 ≠ 0x04#8 ∧ 0x03#8 ≠ 0x05#8) ∧ (0x06#8 ≠ 0x04#8 ∧ 0x06#8 ≠ 0x05#8) := by decide
theorem witness_persist_values : (0x00#8 ≠ 0xFF#8 ∧ 0x00#8 ≠ 0xAA#8) ∧ (0xAB#8 ≠ 0xFF#8 ∧ 0xAB#8 ≠ 0xAA#8) ∧
    0xFFFFFFFE#32 ≠ 0xFFFFFFFF#32 ∧ 0x00000000#32 ≠ 0xFFFFFFFF#32 := by decide
-- BuildersEqualTheirExpansions, EmittedMessagesFit: each builder runs to a next state
theorem witness_builders : (after .frameGetversion used).isSome = true ∧ (after (.frameErase 0xFF#8 0xFF#8) used).isSome = true ∧
    (after (.frameProgramHdr 0x00#8 0x00#8 0x00#8 0#32 0#32) used).isSome = true ∧
    (after (.frameJump 0xFFFFFFFF#32 0xAA#8) used).isSome = true ∧ (after (.frameJump 0x00000000#32 0x12#8) used).isSome = true := by
  decide +kernel
theorem witness_builder_size : (after (.frameProgramHdr 0x00#8 0x00#8 0x00#8 0#32 0#32) State.reset).map
    (fun t => t.txq.map List.length) = some [17] := by decide +kernel
-- FramingEmitsExactlyOneMessage: a packet, a control byte, a fault
theorem witness_framing : IsFraming (.frameCmd 0x00#8 []) = true ∧ IsFraming .ctrlRequestVersion = true ∧
    IsFraming (.emitCtrl 0x06#8) = true := by decide
-- ChunksPartitionTheImage: the first, a full and the last chunk
theorem witness_chunks : ((chunks (ramp 253))[0]?).map List.length = some 252 ∧
    (chunks (ramp 253))[1]? = some [0xFC#8] ∧ (chunks (ramp 253))[2]? = none := by decide +kernel
-- DeframeCmdVerdicts: each clause, the shortest and the longest message (V97 to V104)
/-- The deframed verdict in the state after reset. -/
def verdict (m : Message) : Option OpResult := answer (.deframeCmd m)
theorem witness_deframe_short : verdict [] = some (.verdict .short) ∧ verdict (zeros 5) = some (.verdict .short) := by decide +kernel
theorem witness_deframe_length : verdict (zeros 6) = some (.verdict .badLength) ∧
    verdict ([0xFF#8] ++ zeros 260) = some (.verdict .badLength) ∧
    verdict [0x01#8, 0x00#8, 0x20#8, 0x09#8, 0xDC#8, 0xD4#8, 0x00#8] = some (.verdict .badLength) := by decide +kernel
theorem witness_deframe_shortest : verdict [0x01#8, 0x00#8, 0x20#8, 0x09#8, 0xDC#8, 0xD4#8] = some (.verdict (.okCommand 0x00#8 [])) ∧
    verdict [0x01#8, 0x00#8, 0x20#8, 0x09#8, 0xDC#8, 0xD5#8] = some (.verdict .badChecksum) := by decide +kernel
-- DeframeChunkVerdicts: each clause (V112, V114, V105, V110)
theorem witness_deframeChunk_short : answer (.deframeChunk (zeros 5)) = some (.verdict .short) := by decide +kernel
theorem witness_deframeChunk_length : answer (.deframeChunk ([0xFD#8] ++ zeros 257)) = some (.verdict .badLength) ∧
    answer (.deframeChunk ([0xFC#8] ++ zeros 257)) = some (.verdict .badLength) ∧
    answer (.deframeChunk (zeros 6)) = some (.verdict .badLength) := by decide +kernel
theorem witness_deframeChunk_checked : answer (.deframeChunk [0x01#8, 0x00#8, 0x20#8, 0x09#8, 0xDC#8, 0xD4#8]) = some (.verdict .badChecksum) ∧
    answer (.deframeChunk [0x01#8, 0x00#8, 0xC7#8, 0x04#8, 0xDD#8, 0x7B#8]) = some (.verdict (.okChunk [0x00#8])) := by decide +kernel
theorem witness_deframeChunk_largest : 6 ≤ ([0xFC#8] ++ zeros 256).length ∧ ([0xFC#8] ++ zeros 256).length = (0xFC#8).toNat + 5 ∧
    (0xFC#8).toNat ≤ 252 := by decide +kernel
-- OneChangedByteIsDetected: the first byte, a covered byte, the last byte
theorem witness_changed_byte : (commandPacket 0x00#8 []).length = 6 ∧ (commandPacket 0x00#8 []) = [0x01#8, 0x00#8, 0x20#8, 0x09#8, 0xDC#8, 0xD4#8] ∧
    verdict [0x02#8, 0x00#8, 0x20#8, 0x09#8, 0xDC#8, 0xD4#8] = some (.verdict .badLength) ∧
    verdict [0x01#8, 0x80#8, 0x20#8, 0x09#8, 0xDC#8, 0xD4#8] = some (.verdict .badChecksum) := by decide +kernel
-- ClassifyIsTotal, ResponsesSetTheirSlot: what is left for Unrecognized, next to the other lengths (V65 to V68)
theorem witness_unrecognized : ∀ m ∈ ([[], [0x00#8], [0xFE#8], [0xFF#8, 0xFF#8], [0xFF#8, 0x00#8, 0x00#8, 0x00#8]] : List Message),
    m ≠ [0xFF#8] ∧ m ≠ [0x01#8] ∧ m.length ≠ 3 := by decide
-- OutboundCodesEmitTheirOwnMessage, DecodeOfEncodeIsTheInstruction: each outbound code, at the bounds of its fields
theorem witness_outbound : ∀ i ∈ ([.pktGetversion, .pktEraseflash 0xFF#8 0x00#8,
      .pktFlashprogram 0x00#8 0xFF#8 0x01#8 0xFFFFFFFF#32 0x00000000#32, .pktJumptoaddress 0xFFFFFFFF#32 0xAA#8,
      .pktJumptoaddress 0x00000000#32 0xFF#8, .pktCommandOther 0x04#8 (zeros 254), .pktCommandOther 0xFF#8 [],
      .pktCommandOther 0x00#8 (zeros 254), .pktCommandOther 0x03#8 [0xFF#8, 0xFF#8, 0xFF#8, 0xFF#8, 0x00#8],
      .pktChunk (zeros 1), .pktChunk (zeros 252), .ctrlRequestAcknowledge, .ctrlRequestVersion] : List Instr),
    IsOutboundCode i = true ∧ i.wf = true := by decide +kernel
-- UnusedRequestFieldsAreIgnored
theorem witness_unused_fields : decodeRequest (full 0x8#4) = decodeRequest { full 0x8#4 with c := 0x00#8, w0 := 0#32, w1 := 0#32, data := [] } := by
  decide
-- EveryDecodedMessageIsItsEncoding: test_decode_pktGetversion and the tests after it
theorem witness_outbound_packet : IsOutbound Config.default (commandPacket 0x00#8 [0x00#8]) := .inl ⟨_, _, by decide, rfl⟩
-- StepRunsTheDecodedInstruction
theorem witness_step : (given [.code (.request (full 0x6#4))]).inputs = .code (.request (full 0x6#4)) :: [] ∧
    decode State.reset.config (.request (full 0x6#4)) = .ok (.emitCtrl 0x11#8) ∧ State.reset.inputs = [] ∧
    decodeTableWord 8 0x6 = some (.emitCtrl 0x00#8) := ⟨rfl, rfl, rfl, by decide⟩
-- EveryStepAnswersANextState: each rejection (V97, V94, V92 as messages of the outbound formats; X5, X9)
/-- The last result and the checksum after a step on a message of a wire format. -/
def wired (f : WireFormat) (m : Message) : Option (Option OpResult × Word × List Message) :=
  (stepped (given [.code (.wire f m)])).map fun t => (t.results.getLast?, t.crc, t.txq)
theorem witness_rejected_short : rejects .command (zeros 5) = some .short ∧
    wired .command (zeros 5) = some (some (.verdict .short), 0xFFFFFFFF#32, []) := by decide +kernel
theorem witness_rejected_length : rejects .chunk (zeros 6) = some .badLength ∧
    wired .chunk (zeros 6) = some (some (.verdict .badLength), 0xFFFFFFFF#32, []) := by decide +kernel
theorem witness_rejected_checksum :
    rejects .command [0x03#8, 0x00#8, 0xFF#8, 0xFF#8, 0x1A#8, 0x14#8, 0x09#8, 0xF1#8] = some .badChecksum ∧
    wired .command [0x03#8, 0x00#8, 0xFF#8, 0xFF#8, 0x1A#8, 0x14#8, 0x09#8, 0xF1#8] =
      some (some (.verdict .badChecksum), 0xE814A397#32, []) := by decide +kernel
theorem witness_rejected_control : rejects .control [0x06#8] = some .notControl ∧
    wired .control [0x06#8] = some (some (.fault .badControl), 0xFFFFFFFF#32, []) ∧
    wired .control [] = some (some (.fault .badControl), 0xFFFFFFFF#32, []) := by decide
-- CrcIsLeftAlone: by its kind, and by a fault
theorem witness_crc_kept : LeavesCrc .statusRead = true ∧ (after .statusRead used).map (·.crc) = some used.crc ∧
    LeavesCrc (.frameChunk []) = false ∧ (after (.frameChunk []) used).map (·.crc) = some used.crc := by decide
-- ParameterNeverChanges, StepKeepsTheInvariant
theorem witness_invariant_step : ({ used with inputs := [.publish] } : State).Inv ∧
    (stepped { used with inputs := [.publish] }).map (fun t => (t.txq, t.host.sent, t.config)) =
      some ([], [[0x05#8], [0x04#8]], used.config) := ⟨used_inv, by decide⟩
-- EmittedMessagesFit
theorem witness_emitted : used.Inv ∧ [0x04#8] ∈ used.txq ∧ IsControlByte [0x04#8] := ⟨used_inv, by decide, .inl rfl⟩
-- TransportPublishesTheHead
theorem witness_publish : ({ used with inputs := [.publish] } : State).inputs = .publish :: [] ∧ used.txq = [0x04#8] :: [] := ⟨rfl, rfl⟩
-- SlotsAreClearedBeforeARequest: the packet is built, or CRCF faults on it
/-- About to build the packet of `op`, with a stale slot. -/
def framingHost (op : Instr) : State :=
  { State.reset with
    inputs := [.advance],
    host := { HostEnv.start with
      phase := .frame, slots := { Slots.clear with acknowledge := true },
      plan := { remaining := [op], poll := false, limit := 5, askVersion := false } } }
theorem witness_frame_next : (stepped (framingHost .frameGetversion)).map
    (fun t => (t.host.slots, t.host.phase, t.host.packet, t.txq, t.host.attemptsLeft)) =
    some (Slots.clear, .transmit, [0x01#8, 0x00#8, 0x20#8, 0x09#8, 0xDC#8, 0xD4#8],
      [[0x01#8, 0x00#8, 0x20#8, 0x09#8, 0xDC#8, 0xD4#8]], 5) := by decide +kernel
theorem witness_frame_faults : (stepped (framingHost (.frameJump 0xFFFFFFFF#32 0x00#8))).map
    (fun t => (t.host.phase, t.host.reports, t.txq)) = some (.idle, [.framingFault], []) := by decide +kernel
-- RetriesResendTheSamePacket: a step at the phase that builds a packet which does not build it, and a retry
theorem witness_packet_kept : (hostAt .frame Slots.clear [.timeout]).host.phase = .frame ∧
    (stepped (hostAt .frame Slots.clear [.timeout])).map (·.host.packet) = some [0x05#8] := by decide
theorem witness_retry : (hostAt .transmit Slots.clear [.advance]).host.attemptsLeft = 2 ∧
    2 < (hostAt .transmit Slots.clear [.advance]).host.plan.limit ∧
    (stepped (hostAt .transmit Slots.clear [.advance])).map (fun t => (t.host.sent, t.host.attemptsLeft)) =
      some ([[0x05#8]], 1) := by decide
-- AttemptEndsByItsWaits: each clause
theorem witness_wait_acknowledge : (stepped (hostAt .awaitAcknowledge { Slots.clear with acknowledge := true } [.advance])).map
    (fun t => (t.host.phase, t.host.slots)) = some (.frame, Slots.clear) := by decide
theorem witness_wait_negative : (stepped (hostAt .awaitNegativeAcknowledge { Slots.clear with negativeAcknowledge := true } [.advance])).map
    (fun t => (t.host.phase, t.host.slots)) = some (.transmit, Slots.clear) := by decide
theorem witness_wait_unrecognized : (stepped (hostAt .awaitUnrecognized { Slots.clear with unrecognized := some [] } [.advance])).map
    (fun t => (t.host.phase, t.host.slots)) = some (.transmit, Slots.clear) := by decide
theorem witness_wait_exhausted : (stepped (hostAt .awaitUnrecognized Slots.clear [.timeout])).map (·.host.phase) = some .transmit := by
  decide
-- LateAcknowledgeStaysSet (V137)
theorem witness_late_acknowledge : (ran 3 (hostAt .awaitNegativeAcknowledge Slots.clear
      [.code (.wire .response [0xFF#8]), .advance, .timeout])).map (fun t => (t.host.phase, t.host.slots)) =
    some (.awaitUnrecognized, { Slots.clear with acknowledge := true }) := by decide
-- SilenceExhaustsTheAttempts (V133): with attempts left, and with none
theorem witness_silence : (hostAt .transmit Slots.clear
      ((List.replicate 2 [Input.advance, .timeout, .timeout, .timeout]).flatten ++ [.advance])).host.attemptsLeft = 2 ∧
    (ran 9 (hostAt .transmit Slots.clear
      ((List.replicate 2 [Input.advance, .timeout, .timeout, .timeout]).flatten ++ [.advance]))).map
      (fun t => (t.host.sent, t.host.elapsedMs)) = some ([[0x05#8], [0x05#8]], 31000) := by decide +kernel
-- Log 24: a block reset before the first attempt
theorem test_reset_before_first_attempt : (ran 3 { framingHost .frameGetversion with inputs := [.advance, .reset, .advance] }).map
    (fun t => (t.host.sent, t.host.packet, t.host.attemptsLeft)) =
    some ([], [0x01#8, 0x00#8, 0x20#8, 0x09#8, 0xDC#8, 0xD4#8], 4) := by decide +kernel
-- ExhaustedAttemptsAbortTheSequence: test_exhausted_reported
-- RestartClearsTheSlots
theorem witness_restart : (stepped (hostAt .awaitVersion { Slots.clear with acknowledge := true } [.restart])).map
    (fun t => (t.host.phase, t.host.slots)) = some (.idle, Slots.clear) := by decide

end Sys2Proof.Tests
end

namespace Sys2Proof.Machine

/-- A step on a code that decodes runs the instruction, the input taken. -/
theorem step_code_ok {s : State} {c : Code} {rest : List Input} {i : Instr} (hs : s.inputs = .code c :: rest)
    (hd : decode s.config c = .ok i) : step s = exec i (setInputs rest s) :=
  (step_cons hs).trans (runCode_ok hd)

/-- The code of a table word is a request or a response, never a chunk packet, so the parameter has no say in its decoding. -/
theorem decode_tableCode (config config' : Config) (nbits w : Nat) :
    decode config (tableCode nbits w) = decode config' (tableCode nbits w) := by
  unfold tableCode
  split
  · rfl
  · rfl

/-- What `decodeTableWord` reads is what the word's code decodes to, under either parameter value. -/
theorem decodeTableWord_eq_some_iff {nbits w : Nat} {i : Instr} (config : Config) :
    decodeTableWord nbits w = some i ↔ decode config (tableCode nbits w) = .ok i := by
  rw [decode_tableCode config Config.default, decodeTableWord]
  cases decode Config.default (tableCode nbits w) with
  | ok j => simp [Except.toOption]
  | error e => simp [Except.toOption]

@[simp] theorem withFetchWord_config (s : State) (nbits w : Nat) : (s.withFetchWord nbits w).config = s.config := rfl

@[simp] theorem withFetchWord_inputs (s : State) (nbits w : Nat) :
    (s.withFetchWord nbits w).inputs = .code (tableCode nbits w) :: s.inputs := rfl

/-- Taking the placed word back gives the state it was placed in. -/
@[simp] theorem setInputs_withFetchWord (s : State) (nbits w : Nat) :
    setInputs s.inputs (s.withFetchWord nbits w) = s := rfl

/-- A step on a placed table word runs what it reads as, in the state it was placed in. -/
theorem step_withFetchWord {nbits w : Nat} {i : Instr} (s : State) (h : decodeTableWord nbits w = some i) :
    step (s.withFetchWord nbits w) = exec i s := by
  have hd : decode (s.withFetchWord nbits w).config (tableCode nbits w) = .ok i := (decodeTableWord_eq_some_iff _).mp h
  rw [step_code_ok (withFetchWord_inputs s nbits w) hd, setInputs_withFetchWord]

/-- Settles O43: a step on a decodable code, on no input, and on a placed table word. -/
theorem stepRunsTheDecodedInstruction : Obligations.StepRunsTheDecodedInstruction :=
  ⟨fun _ _ _ _ hs hd => step_code_ok hs hd, fun _ hs => step_nil hs, fun s _ _ _ h => step_withFetchWord s h⟩

end Sys2Proof.Machine

namespace Sys2Proof.Machine

open Laws.TableFormat (rowFormat)

/-! The status does not steer an operation (10_state.md R22): what is left of an operation's answer when the status is
erased is the same from a state and from that state with its status erased. -/

/-- The state with `fault` and `fault_reason` erased. -/
def eraseStatus (s : State) : State := { s with fault := 0#1, faultReason := 0#4 }

/-- The answer with the status of its next state erased. -/
def eraseAnswerStatus : Answer → Answer
  | .next t => .next (eraseStatus t)
  | .fault r => .fault r
  | .refused r => .refused r

theorem eraseStatus_withStatus (s : State) (f : BitVec 1) (n : Nibble) :
    eraseStatus { s with fault := f, faultReason := n } = eraseStatus s := rfl

theorem eraseStatus_eq_iff (s t : State) :
    eraseStatus s = eraseStatus t ↔
      s.crc = t.crc ∧ s.txq = t.txq ∧ s.config = t.config ∧ s.inputs = t.inputs ∧ s.results = t.results ∧
        s.host = t.host := by
  simp [eraseStatus]

/-- An operation that does the same whatever the status; only the status itself may come out differently. -/
def IgnoresStatus (op : State → Answer) : Prop :=
  ∀ s, eraseAnswerStatus (op s) = eraseAnswerStatus (op (eraseStatus s))

theorem frameCommand_ignoresStatus (cmd : Byte) (p : Message) : IgnoresStatus (frameCommand cmd p) := by
  intro s
  unfold frameCommand
  split
  · rfl
  · rfl

theorem frameOneChunk_ignoresStatus (k : Message) : IgnoresStatus (frameOneChunk k) := by
  intro s
  unfold frameOneChunk
  split
  · rfl
  · rfl

theorem emitControl_ignoresStatus (c : Byte) : IgnoresStatus (emitControl c) := by
  intro s
  unfold emitControl
  split
  · rfl
  · rfl

theorem frameJumpPacket_ignoresStatus (a : Word) (p : Byte) : IgnoresStatus (frameJumpPacket a p) := by
  intro s
  unfold frameJumpPacket
  split
  · rfl
  · exact frameCommand_ignoresStatus _ _ s

theorem answerCheck_ignoresStatus (check : PacketCheck) (v : Verdict) : IgnoresStatus (answerCheck check v) := by
  intro s
  cases check with
  | short => rfl
  | badLength => rfl
  | badChecksum c => rfl
  | ok c => rfl

/-- Every operation but STATUS_READ does the same whatever the status. -/
theorem exec_ignoresStatus {i : Instr} (hi : i ≠ .statusRead) : IgnoresStatus (exec i) := by
  cases i
  case crcInit => exact fun _ => rfl
  case crcFeed b => exact fun _ => rfl
  case crcRead => exact fun _ => rfl
  case checksum d => exact fun _ => rfl
  case frameCmd c p => exact frameCommand_ignoresStatus _ _
  case frameChunk k => exact frameOneChunk_ignoresStatus _
  case emitCtrl c => exact emitControl_ignoresStatus _
  case frameGetversion => exact frameCommand_ignoresStatus 0x00#8 []
  case frameErase a b => exact frameCommand_ignoresStatus 0x01#8 (erasePayload a b)
  case frameProgramHdr x y z a n => exact frameCommand_ignoresStatus 0x02#8 (programPayload x y z a n)
  case frameJump a p => exact frameJumpPacket_ignoresStatus _ _
  case deframeCmd m => exact answerCheck_ignoresStatus _ _
  case deframeChunk m => exact fun s => answerCheck_ignoresStatus (checkChunk s.config m) _ s
  case classify m => exact fun _ => rfl
  case statusRead => exact absurd rfl hi
  case reservedF => exact fun _ => rfl
  case pktGetversion => exact frameCommand_ignoresStatus 0x00#8 []
  case pktEraseflash a b => exact frameCommand_ignoresStatus 0x01#8 (erasePayload a b)
  case pktFlashprogram x y z a n => exact frameCommand_ignoresStatus 0x02#8 (programPayload x y z a n)
  case pktJumptoaddress a p => exact frameJumpPacket_ignoresStatus _ _
  case pktCommandOther c p => exact frameCommand_ignoresStatus _ _
  case pktChunk k => exact frameOneChunk_ignoresStatus _
  case ctrlRequestAcknowledge => exact emitControl_ignoresStatus 0x04#8
  case ctrlRequestVersion => exact emitControl_ignoresStatus 0x05#8
  case rspAcknowledge => exact fun _ => rfl
  case rspNegativeAcknowledge => exact fun _ => rfl
  case rspVersionReport x y z => exact fun _ => rfl
  case rspUnrecognized m => exact fun _ => rfl

/-- From states that differ in the status only, such an operation answers states that differ in the status only. -/
theorem IgnoresStatus.eraseStatus_eq {op : State → Answer} (h : IgnoresStatus op) {s s' t t' : State}
    (hs : eraseStatus s = eraseStatus s') (ht : op s = .next t) (ht' : op s' = .next t') :
    eraseStatus t = eraseStatus t' := by
  have he : eraseAnswerStatus (op s) = eraseAnswerStatus (op s') := by rw [h s, h s', hs]
  rw [ht, ht'] at he
  exact Host.Outcome.next.inj he

/-- Settles O6: STATUS_READ changes its result only, and every other operation ignores the status. -/
theorem statusDoesNotSteerOperations : Obligations.StatusDoesNotSteerOperations := by
  intro i s t f n ht
  by_cases hi : i = .statusRead
  · subst hi
    cases ht
    exact ⟨_, rfl, rfl, rfl, rfl, fun h => absurd rfl h⟩
  · obtain ⟨u, hu⟩ := exec_next i { s with fault := f, faultReason := n }
    have he : eraseStatus u = eraseStatus t :=
      (exec_ignoresStatus hi).eraseStatus_eq (eraseStatus_withStatus s f n) hu ht
    obtain ⟨hcrc, htxq, -, -, hresults, hhost⟩ := (eraseStatus_eq_iff u t).mp he
    exact ⟨u, hu, hcrc, htxq, hhost, fun _ => hresults⟩

/-! Which effects the kinds of instruction have: what `exec_effect` says, by the kind. -/

/-- A framing operation or outbound code faults, or emits one message (41_framer.md R120). -/
def FaultsOrEmits (s : State) (A : Answer) : Prop :=
  (∃ r, A = raiseFault r s) ∨ ∃ c m, A = emitPacket c m s

theorem frameCommand_faultsOrEmits (cmd : Byte) (p : Message) (s : State) : FaultsOrEmits s (frameCommand cmd p s) := by
  obtain ⟨-, h⟩ | ⟨-, h⟩ := frameCommand_cases cmd p s
  · exact .inl ⟨_, h⟩
  · exact .inr ⟨_, _, h⟩

theorem frameOneChunk_faultsOrEmits (k : Message) (s : State) : FaultsOrEmits s (frameOneChunk k s) := by
  obtain ⟨-, h⟩ | ⟨-, -, h⟩ := frameOneChunk_cases k s
  · exact .inl ⟨_, h⟩
  · exact .inr ⟨_, _, h⟩

theorem emitControl_faultsOrEmits (c : Byte) (s : State) : FaultsOrEmits s (emitControl c s) := by
  obtain ⟨-, h⟩ | ⟨-, h⟩ := emitControl_cases c s
  · exact .inl ⟨_, h⟩
  · exact .inr ⟨_, _, h⟩

theorem frameJumpPacket_faultsOrEmits (a : Word) (p : Byte) (s : State) : FaultsOrEmits s (frameJumpPacket a p s) := by
  unfold frameJumpPacket
  split
  · exact .inl ⟨_, rfl⟩
  · exact frameCommand_faultsOrEmits _ _ _

theorem exec_faultsOrEmits {i : Instr} (s : State) (hi : IsFraming i = true) : FaultsOrEmits s (exec i s) := by
  cases i
  case frameCmd c p => exact frameCommand_faultsOrEmits _ _ _
  case frameChunk k => exact frameOneChunk_faultsOrEmits _ _
  case emitCtrl c => exact emitControl_faultsOrEmits _ _
  case frameGetversion => exact frameCommand_faultsOrEmits 0x00#8 [] s
  case frameErase a b => exact frameCommand_faultsOrEmits 0x01#8 (erasePayload a b) s
  case frameProgramHdr x y z a n => exact frameCommand_faultsOrEmits 0x02#8 (programPayload x y z a n) s
  case frameJump a p => exact frameJumpPacket_faultsOrEmits _ _ _
  case pktGetversion => exact frameCommand_faultsOrEmits 0x00#8 [] s
  case pktEraseflash a b => exact frameCommand_faultsOrEmits 0x01#8 (erasePayload a b) s
  case pktFlashprogram x y z a n => exact frameCommand_faultsOrEmits 0x02#8 (programPayload x y z a n) s
  case pktJumptoaddress a p => exact frameJumpPacket_faultsOrEmits _ _ _
  case pktCommandOther c p => exact frameCommand_faultsOrEmits _ _ _
  case pktChunk k => exact frameOneChunk_faultsOrEmits _ _
  case ctrlRequestAcknowledge => exact emitControl_faultsOrEmits 0x04#8 s
  case ctrlRequestVersion => exact emitControl_faultsOrEmits 0x05#8 s
  all_goals cases hi

/-- The response codes, by name. -/
theorem rowFormat_eq_response_iff (i : Instr) :
    rowFormat i = some .response ↔
      i = .rspAcknowledge ∨ i = .rspNegativeAcknowledge ∨ (∃ x y z, i = .rspVersionReport x y z) ∨
        ∃ m, i = .rspUnrecognized m := by
  cases i <;> simp [rowFormat]

/-- A response code is its delivery (60_exceptions.md R212). -/
theorem exec_delivers {i : Instr} (s : State) (hi : rowFormat i = some .response) : ∃ m, exec i s = deliver m s := by
  obtain rfl | rfl | ⟨x, y, z, rfl⟩ | ⟨m, rfl⟩ := (rowFormat_eq_response_iff i).mp hi
  · exact ⟨_, rfl⟩
  · exact ⟨_, rfl⟩
  · exact ⟨_, rfl⟩
  · exact ⟨_, rfl⟩

theorem answerCheck_answers (check : PacketCheck) (v : Verdict) (s : State) :
    ∃ r c, answerCheck check v s = complete r (setCrc c s) := by
  cases check with
  | short => exact ⟨_, s.crc, rfl⟩
  | badLength => exact ⟨_, s.crc, rfl⟩
  | badChecksum c => exact ⟨_, c, rfl⟩
  | ok c => exact ⟨_, c, rfl⟩

/-- The reserved operation faults, and what neither frames nor delivers only writes `crc` and answers. -/
theorem exec_faults_or_answers {i : Instr} (s : State) (hf : IsFraming i = false)
    (hr : rowFormat i ≠ some .response) :
    (∃ r, exec i s = raiseFault r s) ∨ ∃ r c, exec i s = complete r (setCrc c s) := by
  cases i
  case crcInit => exact .inr ⟨_, _, rfl⟩
  case crcFeed b => exact .inr ⟨_, _, rfl⟩
  case crcRead => exact .inr ⟨_, s.crc, rfl⟩
  case checksum d => exact .inr ⟨_, _, rfl⟩
  case deframeCmd m => exact .inr (answerCheck_answers _ _ _)
  case deframeChunk m => exact .inr (answerCheck_answers _ _ _)
  case classify m => exact .inr ⟨_, s.crc, rfl⟩
  case statusRead => exact .inr ⟨_, s.crc, rfl⟩
  case reservedF => exact .inl ⟨_, rfl⟩
  case rspAcknowledge => exact absurd rfl hr
  case rspNegativeAcknowledge => exact absurd rfl hr
  case rspVersionReport x y z => exact absurd rfl hr
  case rspUnrecognized m => exact absurd rfl hr
  all_goals cases hf

/-- Settles O45: by the kind of instruction, a framing one, a response code, or neither. -/
theorem everyOperationAnswersOneResult : Obligations.EveryOperationAnswersOneResult := by
  intro i s
  by_cases hf : IsFraming i = true
  · obtain ⟨r, h⟩ | ⟨c, m, h⟩ := exec_faultsOrEmits s hf
    · exact ⟨_, _, h, rfl, .inl rfl, rfl, rfl, rfl, .inl rfl⟩
    · exact ⟨_, _, h, rfl, .inr ⟨m, hf, rfl⟩, rfl, rfl, rfl, .inl rfl⟩
  by_cases hr : rowFormat i = some .response
  · obtain ⟨m, h⟩ := exec_delivers s hr
    exact ⟨_, _, h, rfl, .inl rfl, rfl, rfl, rfl, .inr ((rowFormat_eq_response_iff i).mp hr)⟩
  · obtain ⟨r, h⟩ | ⟨r, c, h⟩ := exec_faults_or_answers s (Bool.eq_false_of_not_eq_true hf) hr
    · exact ⟨_, _, h, rfl, .inl rfl, rfl, rfl, rfl, .inl rfl⟩
    · exact ⟨_, _, h, rfl, .inl rfl, rfl, rfl, rfl, .inl rfl⟩

/-! What leaves `crc` alone (10_state.md R20). -/

/-- An effect whose result is a fault is that fault, raised. -/
theorem Effect.eq_raiseFault {s t : State} {A : Answer} {r : FaultReason} (he : Effect s A) (hA : A = .next t)
    (ht : t.results = s.results ++ [.fault r]) : A = raiseFault r s := by
  cases he with
  | faults f =>
    cases hA
    have hf : f = r := by simpa using ht
    rw [hf]
  | answers q c h =>
    cases hA
    exact absurd (by simpa using ht) (h r)
  | emits c m h =>
    cases hA
    simp at ht
  | delivers m =>
    cases hA
    simp at ht

theorem raiseFault_crc {r : FaultReason} {s t : State} (h : raiseFault r s = .next t) : t.crc = s.crc := by
  cases h
  rfl

theorem emitControl_crc {c : Byte} {s t : State} (h : emitControl c s = .next t) : t.crc = s.crc := by
  obtain ⟨-, hc⟩ | ⟨-, hc⟩ := emitControl_cases c s
  · exact raiseFault_crc (hc ▸ h)
  · rw [hc] at h
    cases h
    rfl

theorem exec_crc_of_leavesCrc {i : Instr} {s t : State} (hi : LeavesCrc i = true) (h : exec i s = .next t) :
    t.crc = s.crc := by
  cases i
  case crcRead => cases h; rfl
  case emitCtrl c => exact emitControl_crc h
  case classify m => cases h; rfl
  case statusRead => cases h; rfl
  case reservedF => exact raiseFault_crc h
  case ctrlRequestAcknowledge => exact emitControl_crc (c := 0x04#8) h
  case ctrlRequestVersion => exact emitControl_crc (c := 0x05#8) h
  case rspAcknowledge => cases h; rfl
  case rspNegativeAcknowledge => cases h; rfl
  case rspVersionReport x y z => cases h; rfl
  case rspUnrecognized m => cases h; rfl
  all_goals cases hi

/-- Settles O46: by the kind of operation, and by what raising a fault leaves. -/
theorem crcIsLeftAlone : Obligations.CrcIsLeftAlone := by
  rintro i s t h (hi | ⟨r, hr⟩)
  · exact exec_crc_of_leavesCrc hi h
  · have hf : exec i s = raiseFault r s := (exec_effect i s).eq_raiseFault h hr
    exact raiseFault_crc (hf.symm.trans h)

/-! What the host's own actions leave unchanged (10_state.md R26): all of the block but `txq`, which the transport
empties. -/

/-- Nothing but the host environment and `txq` changes from `s` to `t`. -/
def OnlyHostAndTxq (s t : State) : Prop := ∃ h q, t = { s with host := h, txq := q }

theorem OnlyHostAndTxq.refl (s : State) : OnlyHostAndTxq s s := ⟨s.host, s.txq, rfl⟩

theorem OnlyHostAndTxq.trans {s t u : State} (hst : OnlyHostAndTxq s t) (htu : OnlyHostAndTxq t u) :
    OnlyHostAndTxq s u := by
  obtain ⟨h, q, rfl⟩ := hst
  obtain ⟨h', q', rfl⟩ := htu
  exact ⟨h', q', rfl⟩

theorem OnlyHostAndTxq.config {s t : State} (hst : OnlyHostAndTxq s t) : t.config = s.config := by
  obtain ⟨h, q, rfl⟩ := hst
  rfl

theorem setHost_onlyHostAndTxq (h : HostEnv) (s : State) : OnlyHostAndTxq s (setHost h s) := ⟨h, s.txq, rfl⟩

theorem publishAll_onlyHostAndTxq (s : State) : OnlyHostAndTxq s (publishAll s) := ⟨s.host.publish s.txq, [], rfl⟩

theorem publishHead_nil {s : State} (h : s.txq = []) : publishHead s = s := by
  simp only [publishHead, h]

theorem publishHead_cons {s : State} {m : Message} {q : List Message} (h : s.txq = m :: q) :
    publishHead s = { s with txq := q, host := s.host.publish [m] } := by
  simp only [publishHead, h]

theorem publishHead_onlyHostAndTxq (s : State) : OnlyHostAndTxq s (publishHead s) := by
  cases h : s.txq with
  | nil =>
    rw [publishHead_nil h]
    exact .refl s
  | cons m q =>
    rw [publishHead_cons h]
    exact ⟨s.host.publish [m], q, rfl⟩

theorem beginSequence_onlyHostAndTxq (s : State) : OnlyHostAndTxq s (beginSequence s) := by
  unfold beginSequence
  split
  · exact .refl s
  · exact setHost_onlyHostAndTxq _ s

theorem keepPacket_onlyHostAndTxq (queued : Nat) (rest : List Instr) (s : State) :
    OnlyHostAndTxq s (keepPacket queued rest s) := by
  unfold keepPacket
  split
  · exact setHost_onlyHostAndTxq _ s
  · exact setHost_onlyHostAndTxq _ s

theorem sendPacket_onlyHostAndTxq (s : State) : OnlyHostAndTxq s (sendPacket s) := by
  unfold sendPacket
  split
  · exact publishAll_onlyHostAndTxq s
  · exact setHost_onlyHostAndTxq _ s

theorem transmit_onlyHostAndTxq (s : State) : OnlyHostAndTxq s (transmit s) := by
  unfold transmit
  split
  · exact setHost_onlyHostAndTxq _ s
  · exact (sendPacket_onlyHostAndTxq s).trans (setHost_onlyHostAndTxq _ _)

/-- All the orchestration path can do in one action: change the host environment and `txq`, or first issue one operation
to the block (60_exceptions.md R210). -/
inductive Advance (s t : State) : Prop where
  | hostOnly (h : OnlyHostAndTxq s t)
  | issues (i : Instr) (h : HostEnv) (u : State) (hu : exec i (setHost h s) = .next u) (ht : OnlyHostAndTxq u t)

/-- An issued operation, whose continuation belongs to the host. -/
theorem Advance.of_issue {i : Instr} {h : HostEnv} {s t : State} {andThen : State → State}
    (hk : ∀ u, OnlyHostAndTxq u (andThen u)) (ht : issue i (setHost h s) andThen = .next t) : Advance s t := by
  obtain ⟨u, hu, hi⟩ := issue_next i (setHost h s) andThen
  cases hi.symm.trans ht
  exact .issues i h u hu (hk u)

theorem frameNext_advance {s t : State} (ht : frameNext s = .next t) : Advance s t := by
  unfold frameNext at ht
  split at ht
  · split at ht
    · cases ht
      exact .hostOnly (setHost_onlyHostAndTxq _ s)
    · cases ht
      exact .hostOnly (setHost_onlyHostAndTxq _ s)
  · exact .of_issue (keepPacket_onlyHostAndTxq _ _) ht

theorem sendControl_advance {c : Byte} {p : Phase} {s t : State} (ht : sendControl c p s = .next t) : Advance s t :=
  .of_issue (h := s.host)
    (fun u => (publishAll_onlyHostAndTxq u).trans (setHost_onlyHostAndTxq _ _)) ht

theorem hostAdvance_advance {s t : State} (ht : hostAdvance s = .next t) : Advance s t := by
  unfold hostAdvance at ht
  generalize s.host.phase = p at ht
  cases p with
  | idle => cases ht; exact .hostOnly (beginSequence_onlyHostAndTxq s)
  | frame => exact frameNext_advance ht
  | transmit => cases ht; exact .hostOnly (transmit_onlyHostAndTxq s)
  | poll => exact sendControl_advance ht
  | requestVersion => exact sendControl_advance ht
  | awaitAcknowledge | awaitNegativeAcknowledge | awaitUnrecognized | awaitVersion =>
    cases ht
    exact .hostOnly (setHost_onlyHostAndTxq _ s)

/-! The parameter never changes (10_state.md R25). -/

theorem Effect.config {s t : State} {A : Answer} (he : Effect s A) (hA : A = .next t) : t.config = s.config := by
  cases he with
  | faults r => cases hA; rfl
  | answers r c h => cases hA; rfl
  | emits c m h => cases hA; rfl
  | delivers m => cases hA; rfl

theorem Advance.config {s t : State} (h : Advance s t) : t.config = s.config := by
  cases h with
  | hostOnly h => exact h.config
  | issues i h u hu ht => exact ht.config.trans ((exec_effect i (setHost h s)).config hu)

theorem runInput_config {i : Input} {s t : State} (h : runInput i s = .next t) : t.config = s.config := by
  cases i with
  | code c => exact (runCode_effect c s).config h
  | publish => cases h; exact (publishHead_onlyHostAndTxq s).config
  | reset => cases h; exact resetBlock_config s
  | start q => cases h; exact setHost_config _ s
  | advance => exact (hostAdvance_advance h).config
  | timeout => cases h; exact setHost_config _ s
  | restart => cases h; exact setHost_config _ s

/-- Settles O47: no input changes the parameter, whichever a step takes. -/
theorem parameterNeverChanges : Obligations.ParameterNeverChanges := by
  intro s t h
  cases hs : s.inputs with
  | nil =>
    rw [step_nil hs] at h
    cases h
    rfl
  | cons i rest =>
    rw [step_cons hs] at h
    exact (runInput_config h).trans (setInputs_config rest s)

/-- Settles O52: the publication of a head, its pacing delay the host's `PACE`. -/
theorem transportPublishesTheHead : Obligations.TransportPublishesTheHead := by
  intro s m q rest hs hq
  have hhead : (setInputs rest s).txq = m :: q := hq
  calc step s = .next (publishHead (setInputs rest s)) := step_cons hs
    _ = .next { setInputs rest s with txq := q, host := s.host.publish [m] } := by rw [publishHead_cons hhead]; rfl

end Sys2Proof.Machine

namespace Sys2Proof.Machine

/-! An outbound wire code emits the message it is encoded as (30_encoding.md R61 to R66; log 1): on the operands that
`Instr.wf` admits, no shared framing operation faults. -/

theorem frameCommand_eq_emitPacket (cmd : Byte) {p : Message} (s : State) (hp : p.length ≤ 254) :
    frameCommand cmd p s = emitPacket (checksum (commandCovered cmd p)) (commandPacket cmd p) s :=
  if_neg (Nat.not_lt.mpr hp)

theorem frameOneChunk_eq_emitPacket {k : Message} (s : State) (h1 : 1 ≤ k.length) (h2 : k.length ≤ 252) :
    frameOneChunk k s = emitPacket (checksum (chunkCovered s.config k)) (chunkPacket s.config k) s :=
  if_neg (by simp only [Config.chunkMax]; omega)

/-- The persist bytes of a well-formed JumpToAddress packet are those that the framer sends as given (41_framer.md R133). -/
theorem persistAllowed_iff_forcedPersist (a : Word) (p : Byte) :
    persistAllowed a p = true ↔ forcedPersist a p = .some p := by
  unfold persistAllowed forcedPersist
  by_cases ha : a = Config.sentinelAddress
  · by_cases hF : p = Config.persistApplication <;> simp [ha, hF]
  · simp [ha, eq_comm]

theorem frameJumpPacket_eq_emitPacket {a : Word} {p : Byte} (s : State) (hp : persistAllowed a p = true) :
    frameJumpPacket a p s =
      emitPacket (checksum (commandCovered 0x03#8 (jumpPayload a p))) (commandPacket 0x03#8 (jumpPayload a p)) s := by
  simp only [frameJumpPacket, (persistAllowed_iff_forcedPersist a p).mp hp]
  exact frameCommand_eq_emitPacket _ s (by simp [jumpPayload_length])

/-- The instruction's message, as it is encoded, is what it emits; `crc` is left with some value. -/
def EmitsItsEncoding (i : Instr) (s : State) : Prop :=
  ∃ f m c, encode s.config i = .wire f m ∧ exec i s = emitPacket c m s

theorem exec_emitsItsEncoding {i : Instr} (s : State) (hi : IsOutboundCode i = true) (hwf : i.wf = true) :
    EmitsItsEncoding i s := by
  cases i
  case pktGetversion => exact ⟨_, _, _, rfl, frameCommand_eq_emitPacket (p := []) 0x00#8 s (Nat.zero_le 254)⟩
  case pktEraseflash a n =>
    have hp : (erasePayload a n).length ≤ 254 := by simp [erasePayload]
    exact ⟨_, _, _, rfl, frameCommand_eq_emitPacket 0x01#8 s hp⟩
  case pktFlashprogram x y z a n =>
    have hp : (programPayload x y z a n).length ≤ 254 := by simp [programPayload_length]
    exact ⟨_, _, _, rfl, frameCommand_eq_emitPacket 0x02#8 s hp⟩
  case pktJumptoaddress a p => exact ⟨_, _, _, rfl, frameJumpPacket_eq_emitPacket s hwf⟩
  case pktCommandOther cmd p =>
    have hp : p.length ≤ 254 := of_decide_eq_true (Bool.and_eq_true_iff.mp hwf).2
    exact ⟨_, _, _, rfl, frameCommand_eq_emitPacket cmd s hp⟩
  case pktChunk k =>
    obtain ⟨h1, h2⟩ := Bool.and_eq_true_iff.mp hwf
    exact ⟨_, _, _, rfl, frameOneChunk_eq_emitPacket s (of_decide_eq_true h1) (of_decide_eq_true h2)⟩
  case ctrlRequestAcknowledge => exact ⟨_, _, s.crc, rfl, rfl⟩
  case ctrlRequestVersion => exact ⟨_, _, s.crc, rfl, rfl⟩
  all_goals cases hi

/-- Settles O37: the code emits its encoding, and an emission changes `crc`, `txq` and the results only. -/
theorem outboundCodesEmitTheirOwnMessage : Obligations.OutboundCodesEmitTheirOwnMessage := by
  intro i s hi hwf
  obtain ⟨f, m, c, hencode, hexec⟩ := exec_emitsItsEncoding s hi hwf
  exact ⟨_, f, m, hencode, hexec, rfl, rfl, rfl, rfl, rfl, rfl, rfl⟩

/-! The fields of a request (30_encoding.md R71). -/

/-- Settles O40: by the op code; each case names the fields its operation uses. -/
theorem unusedRequestFieldsAreIgnored : Obligations.UnusedRequestFieldsAreIgnored := by
  rintro ⟨_, a, b, c, w0, w1, data⟩ ⟨op, a', b', c', w0', w1', data'⟩ rfl ha hb hc hw0 hw1 hdata
  dsimp only at ha hb hc hw0 hw1 hdata
  obtain ⟨op⟩ := op
  fin_cases op
  · exact Eq.refl Instr.crcInit
  · exact congrArg Instr.crcFeed (ha (by decide))
  · exact Eq.refl Instr.crcRead
  · exact congrArg Instr.checksum (hdata (by decide))
  · exact congrArg₂ Instr.frameCmd (ha (by decide)) (hdata (by decide))
  · exact congrArg Instr.frameChunk (hdata (by decide))
  · exact congrArg Instr.emitCtrl (ha (by decide))
  · exact Eq.refl Instr.frameGetversion
  · exact congrArg₂ Instr.frameErase (ha (by decide)) (hb (by decide))
  · cases ha (by decide)
    cases hb (by decide)
    cases hc (by decide)
    cases hw0 (by decide)
    cases hw1 (by decide)
    exact rfl
  · exact congrArg₂ Instr.frameJump (hw0 (by decide)) (ha (by decide))
  · exact congrArg Instr.deframeCmd (hdata (by decide))
  · exact congrArg Instr.deframeChunk (hdata (by decide))
  · exact congrArg Instr.classify (hdata (by decide))
  · exact Eq.refl Instr.statusRead
  · exact Eq.refl Instr.reservedF

/-! The bits of the status word (30_encoding.md R72). -/

/-- Below bit 4 the status word is `fault` zero-extended, from bit 4 on `fault_reason` zero-extended. -/
theorem statusWord_getLsbD (s : State) {i : Nat} (hi : i < 32) :
    (statusWord s).getLsbD i = if i < 4 then s.fault.getLsbD i else s.faultReason.getLsbD (i - 4) := by
  split
  · simp [statusWord, *]
  · have hfault : s.fault.getLsbD i = false := BitVec.getLsbD_of_ge _ _ (by omega)
    have hlt : i - 4 < 32 := by omega
    simp [statusWord, *]

theorem statusWord_extract_fault (s : State) : (statusWord s).extractLsb' 0 1 = s.fault := by
  refine BitVec.eq_of_getLsbD_eq fun i hi => ?_
  have h4 : i < 4 := by omega
  rw [BitVec.getLsbD_extractLsb', statusWord_getLsbD s (by omega)]
  simp [hi, h4]

theorem statusWord_extract_low_zero (s : State) : (statusWord s).extractLsb' 1 3 = 0#3 := by
  refine BitVec.eq_of_getLsbD_eq fun i hi => ?_
  have h4 : 1 + i < 4 := by omega
  rw [BitVec.getLsbD_extractLsb', statusWord_getLsbD s (by omega)]
  simp [h4]

theorem statusWord_extract_faultReason (s : State) : (statusWord s).extractLsb' 4 4 = s.faultReason := by
  refine BitVec.eq_of_getLsbD_eq fun i hi => ?_
  rw [BitVec.getLsbD_extractLsb', statusWord_getLsbD s (by omega)]
  simp [hi]

theorem statusWord_extract_high_zero (s : State) : (statusWord s).extractLsb' 8 24 = 0#24 := by
  refine BitVec.eq_of_getLsbD_eq fun i hi => ?_
  have h4 : ¬ 8 + i < 4 := by omega
  have h8 : 4 ≤ 8 + i - 4 := by omega
  rw [BitVec.getLsbD_extractLsb', statusWord_getLsbD s (by omega), if_neg h4, BitVec.getLsbD_of_ge _ _ h8]
  simp

/-- Settles O19: STATUS_READ answers the status word, whose four fields are read above. -/
theorem statusWordLayout : Obligations.StatusWordLayout := fun s =>
  ⟨_, statusWord s, rfl, rfl, statusWord_extract_fault s, statusWord_extract_low_zero s,
    statusWord_extract_faultReason s, statusWord_extract_high_zero s⟩

end Sys2Proof.Machine

namespace Sys2Proof.Machine

/-! The CRC algorithm (40_crc_engine.md R100 to R106). -/

/-- `shiftSteps` iterates the tested shift of 40_crc_engine.md R100. -/
theorem shiftSteps_eq_iterate (n : Nat) (c : Word) :
    shiftSteps n c =
      (fun v : Word => if v.getLsbD 31 = true then (v <<< 1) ^^^ 0x04C11DB7#32 else v <<< 1)^[n] c := by
  induction n generalizing c with
  | zero => rfl
  | succ n ih =>
    rw [shiftSteps_succ, ih, Function.iterate_succ_apply]
    rfl

/-- Settles O8: the shifts of `crcStep8` are eight iterations of the tested shift. -/
theorem byteStepTestsTheTopBitFirst : Obligations.ByteStepTestsTheTopBitFirst :=
  fun c x => shiftSteps_eq_iterate 8 (c ^^^ (zext32 x <<< 24))

@[simp] theorem expandByte_length (b : Byte) : (expandByte b).length = 4 := rfl

theorem expand_length (d : Message) : (expand d).length = 4 * d.length := by
  induction d with
  | nil => rfl
  | cons b d ih =>
    rw [expand_cons, List.length_append, expandByte_length, ih, List.length_cons]
    omega

/-- The group of byte `i` is its word: the groups before it are four bytes each. -/
theorem expand_drop_take (d : Message) (i : Nat) (h : i < d.length) :
    ((expand d).drop (4 * i)).take 4 = expandByte d[i] := by
  induction d generalizing i with
  | nil => cases h
  | cons b d ih =>
    rw [expand_cons]
    cases i with
    | zero => rfl
    | succ i =>
      have hlen : 4 * (i + 1) = (expandByte b).length + 4 * i := by rw [expandByte_length]; omega
      rw [hlen, List.drop_length_add_append, List.getElem_cons_succ]
      exact ih i (Nat.lt_of_succ_lt_succ h)

/-- Settles O9, by induction on the bytes. -/
theorem expansionPutsEachByteInItsWord : Obligations.ExpansionPutsEachByteInItsWord :=
  ⟨expand_nil, expand_length, expand_drop_take⟩

theorem crcRaw_append (c : Word) (xs ys : Message) : crcRaw c (xs ++ ys) = crcRaw (crcRaw c xs) ys :=
  List.foldl_append

/-- Settles O10: the raw CRC is a left fold. -/
theorem rawCrcFoldsOverBytes : Obligations.RawCrcFoldsOverBytes :=
  ⟨crcRaw_nil, crcRaw_cons, crcRaw_append⟩

/-- Settles O12: the final XOR is with zero, and one byte expands to one group. -/
theorem checksumIsTheExpandedCrc : Obligations.ChecksumIsTheExpandedCrc :=
  ⟨fun d => ⟨rfl, checksum_eq_crcRaw d⟩, checksum_eq_crcRaw [], fun b => checksum_eq_crcRaw [b]⟩

/-- Settles O13, by running the algorithm on the nine bytes. -/
theorem checkValues : Obligations.CheckValues := by
  unfold Obligations.CheckValues
  decide +kernel

/-! The word form (40_crc_engine.md R104). Each of the four byte steps takes the top byte of the word; the bits below it
only move up by eight, and meet the register at the next step. -/

/-- A word whose top bit is clear is only shifted. -/
theorem shiftStep_of_top_clear {v : Word} (h : v.getLsbD 31 = false) : shiftStep v = v <<< 1 := by
  rw [shiftStep, h]
  rfl

/-- A word whose top `n` bits are clear is only shifted by `n` tested shifts. -/
theorem shiftSteps_of_top_clear (n : Nat) (v : Word) (h : ∀ i, 32 ≤ i + n → v.getLsbD i = false) :
    shiftSteps n v = v <<< n := by
  induction n generalizing v with
  | zero => simp
  | succ n ih =>
    have hnext : ∀ i, 32 ≤ i + n → (v <<< 1).getLsbD i = false := by
      intro i hi
      have hbit : v.getLsbD (i - 1) = false := h (i - 1) (by omega)
      simp [hbit]
    rw [shiftSteps_succ, shiftStep_of_top_clear (h 31 (by omega)), ih _ hnext, ← BitVec.shiftLeft_add, Nat.add_comm]

/-- The three bytes of a word below its top byte. -/
def lowBytes (w : Word) : Word := (w.setWidth 24).setWidth 32

theorem lowBytes_getLsbD (w : Word) (i : Nat) : (lowBytes w).getLsbD i = (decide (i < 24) && w.getLsbD i) := by
  by_cases h : i < 24
  · have h32 : i < 32 := by omega
    simp [lowBytes, h, h32]
  · simp [lowBytes, h]

/-- A word is its top byte, in place, and its low bytes. -/
theorem top_xor_lowBytes (w : Word) : (zext32 (w.extractLsb' 24 8) <<< 24) ^^^ lowBytes w = w := by
  refine BitVec.eq_of_getLsbD_eq fun i hi => ?_
  rw [BitVec.getLsbD_xor, lowBytes_getLsbD]
  by_cases hlow : i < 24
  · simp [zext32, hlow]
  · have hbyte : i - 24 < 8 := by omega
    have hpos : 24 + (i - 24) = i := by omega
    simp [zext32, hlow, hi, hbyte, hpos]

/-- The low bytes move up into the top byte's place, as they do when the whole word moves up. -/
theorem lowBytes_shiftLeft (w : Word) : lowBytes w <<< 8 = w <<< 8 := by
  refine BitVec.eq_of_getLsbD_eq fun i hi => ?_
  have hlow : i - 8 < 24 := by omega
  rw [BitVec.getLsbD_shiftLeft, BitVec.getLsbD_shiftLeft, lowBytes_getLsbD, decide_eq_true hlow, Bool.true_and]

/-- Eight shifts of `c ^^^ w` are the byte step on the top byte of `w`, the other bytes of `w` moved up under it. -/
theorem shiftSteps_eight_xor (c w : Word) :
    shiftSteps 8 (c ^^^ w) = crcStep8 c (w.extractLsb' 24 8) ^^^ (w <<< 8) := by
  have hclear : ∀ i, 32 ≤ i + 8 → (lowBytes w).getLsbD i = false := by
    intro i hi
    have hlow : ¬ i < 24 := by omega
    rw [lowBytes_getLsbD, decide_eq_false hlow, Bool.false_and]
  calc shiftSteps 8 (c ^^^ w)
      = shiftSteps 8 (c ^^^ (zext32 (w.extractLsb' 24 8) <<< 24) ^^^ lowBytes w) := by
        rw [BitVec.xor_assoc, top_xor_lowBytes]
    _ = crcStep8 c (w.extractLsb' 24 8) ^^^ (w <<< 8) := by
        rw [shiftSteps_xor, shiftSteps_of_top_clear 8 _ hclear, lowBytes_shiftLeft, crcStep8]

/-- The byte that a word moved up by `n` bits has on top. -/
theorem extract_top_shiftLeft (w : Word) {n : Nat} (h : n ≤ 24) :
    (w <<< n).extractLsb' 24 8 = w.extractLsb' (24 - n) 8 := by
  refine BitVec.eq_of_getLsbD_eq fun i hi => ?_
  have hlt : 24 + i < 32 := by omega
  have hn : ¬ 24 + i < n := by omega
  have hpos : 24 + i - n = 24 - n + i := by omega
  rw [BitVec.getLsbD_extractLsb', BitVec.getLsbD_extractLsb', BitVec.getLsbD_shiftLeft, hpos]
  simp [hi, hlt, hn]

/-- The byte form equals the word form: the word's four bytes enter one after the other. -/
theorem crcRaw_be32 (c w : Word) : crcRaw c (be32 w) = crcWord c w := by
  have htail : w <<< 32 = 0#32 := BitVec.shiftLeft_eq_zero (by decide)
  symm
  calc crcWord c w = shiftSteps 8 (shiftSteps 8 (shiftSteps 8 (shiftSteps 8 (c ^^^ w)))) := by
        rw [← shiftSteps_add, ← shiftSteps_add, ← shiftSteps_add, crcWord]
    _ = crcRaw c (be32 w) := by
        simp only [shiftSteps_eight_xor, ← BitVec.shiftLeft_add]
        simp [htail, be32, extract_top_shiftLeft]

/-- A byte's expansion is the big-endian form of that byte as a word. -/
theorem be32_zext32 (b : Byte) : be32 (zext32 b) = expandByte b := by
  have hword : fromBe32 [0#8, 0#8, 0#8, b] = zext32 b := by simp [fromBe32, zext32]
  rw [← hword, be32_fromBe32, expandByte]

/-- One expanded byte, by the byte form and by the word form. -/
theorem crcRaw_expandByte (c : Word) (b : Byte) : crcRaw c (expandByte b) = crcWord c (zext32 b) := by
  rw [← be32_zext32, crcRaw_be32]

@[simp] theorem feedWords_nil (c : Word) : feedWords c [] = c := rfl

@[simp] theorem feedWords_cons (c : Word) (b : Byte) (d : Message) :
    feedWords c (b :: d) = feedWords (crcWord c (zext32 b)) d := rfl

theorem feedWords_eq_crcRaw (c : Word) (d : Message) : feedWords c d = crcRaw c (expand d) := by
  induction d generalizing c with
  | nil => rw [feedWords_nil, expand_nil, crcRaw_nil]
  | cons b d ih => rw [feedWords_cons, ih, expand_cons, crcRaw_append, crcRaw_expandByte]

/-- The loop of CHECKSUM from `INIT` computes the checksum. -/
theorem feedWords_init (d : Message) : feedWords Config.init d = checksum d := by
  rw [feedWords_eq_crcRaw, checksum_eq_crcRaw]

/-- Settles O11: 32 iterated shifts, the word's four bytes one by one, and the fold of CHECKSUM's loop. -/
theorem wordFormEqualsByteForm : Obligations.WordFormEqualsByteForm := by
  refine ⟨fun c w => shiftSteps_eq_iterate 32 (c ^^^ w), crcRaw_be32, fun d => ?_⟩
  rw [List.foldl_map]
  exact (feedWords_init d).symm

/-! The operations of the engine (40_crc_engine.md R110 to R114). -/

/-- The op code alone selects the operation (30_encoding.md R71). -/
theorem decodeRequest_of_op {r : Request} {op : Nibble} (h : r.op = op) :
    decodeRequest r = decodeRequest { r with op := op } := by
  rw [← h]

/-- Settles O14: CRC_INIT is the load of `INIT`, and op 0x0 selects it. -/
theorem crcInitLoadsTheInitialValue : Obligations.CrcInitLoadsTheInitialValue :=
  ⟨fun _ => rfl, fun _ hop => decodeRequest_of_op hop⟩

/-- CRC_FEED by the word form; the byte form is its definition. -/
theorem exec_crcFeed (b : Byte) (s : State) :
    exec (.crcFeed b) s = .next (s.answered (crcWord s.crc (zext32 b)) .none) := by
  rw [← crcRaw_expandByte]
  rfl

/-- Feeds in sequence are the loop of CHECKSUM. -/
theorem foldl_crcRaw_expandByte (c : Word) (d : Message) :
    d.foldl (fun v b => crcRaw v (expandByte b)) c = feedWords c d := by
  simp only [crcRaw_expandByte, feedWords]

/-- Settles O15: a feed by both forms, the corner cases by running them, and feeds in sequence from `INIT`. -/
theorem crcFeedTakesOneExpandedByte : Obligations.CrcFeedTakesOneExpandedByte := by
  refine ⟨fun b s => ⟨rfl, exec_crcFeed b s⟩, by decide +kernel, ?_, fun d => ?_, fun _ hop => decodeRequest_of_op hop⟩
  · have hcrc : crcWord State.reset.crc (zext32 0x01#8) = 0xC3C5C0CC#32 := by decide +kernel
    rw [exec_crcFeed, hcrc]
  · exact (foldl_crcRaw_expandByte Config.init d).trans (feedWords_init d)

theorem exec_checksum (d : Message) (s : State) :
    exec (.checksum d) s = .next (s.answered (checksum d) (.word (checksum d))) := by
  rw [← feedWords_init]
  rfl

/-- Settles O17: the loop of CHECKSUM computes the checksum. -/
theorem checksumAnswersTheChecksum : Obligations.ChecksumAnswersTheChecksum :=
  ⟨exec_checksum, by decide +kernel, fun _ hop => decodeRequest_of_op hop⟩

/-! CRC_READ after a framing operation (40_crc_engine.md R112, 41_framer.md R120). -/

/-- What a framing operation that answered None leaves: `crc` holds the checksum of `covered`, and the emitted packet is
`body` with that checksum at its end. -/
def LeavesPacket (s : State) (covered body : Message) (t : State) : Prop :=
  t.crc = checksum covered ∧ t.txq = s.txq ++ [body ++ be32 t.crc]

/-- A fault is not answered None. -/
theorem raiseFault_not_none {r : FaultReason} {s t : State} (h : raiseFault r s = .next t)
    (ht : t.results = s.results ++ [.none]) : False := by
  cases h
  simp at ht

theorem frameCommand_leavesPacket {cmd : Byte} {p : Message} {s t : State} (h : frameCommand cmd p s = .next t)
    (ht : t.results = s.results ++ [.none]) : LeavesPacket s (commandCovered cmd p) (commandCovered cmd p) t := by
  obtain ⟨-, hf⟩ | ⟨-, hf⟩ := frameCommand_cases cmd p s
  · exact (raiseFault_not_none (hf.symm.trans h) ht).elim
  · cases hf.symm.trans h
    exact ⟨rfl, rfl⟩

theorem frameOneChunk_leavesPacket {k : Message} {s t : State} (h : frameOneChunk k s = .next t)
    (ht : t.results = s.results ++ [.none]) : LeavesPacket s (chunkCovered s.config k) (chunkFramed k) t := by
  obtain ⟨-, hf⟩ | ⟨-, -, hf⟩ := frameOneChunk_cases k s
  · exact (raiseFault_not_none (hf.symm.trans h) ht).elim
  · cases hf.symm.trans h
    exact ⟨rfl, rfl⟩

/-- FRAME_JUMP is a FRAME_CMD where its persist check passes. -/
theorem frameJumpPacket_leavesPacket {a : Word} {p : Byte} {s t : State} (h : frameJumpPacket a p s = .next t)
    (ht : t.results = s.results ++ [.none]) : ∃ body, LeavesPacket s body body t := by
  unfold frameJumpPacket at h
  split at h
  · exact (raiseFault_not_none h ht).elim
  · exact ⟨_, frameCommand_leavesPacket h ht⟩

/-- Every framing operation of the port but FRAME_CHUNK and EMIT_CTRL leaves a command packet. -/
theorem exec_leavesPacket {i : Instr} {s t : State} (hf : IsFraming i = true) (ho : IsOutboundCode i = false)
    (hl : LeavesCrc i = false) (hk : ∀ k, i ≠ .frameChunk k) (h : exec i s = .next t)
    (ht : t.results = s.results ++ [.none]) : ∃ body, LeavesPacket s body body t := by
  cases i
  case frameCmd c p => exact ⟨_, frameCommand_leavesPacket h ht⟩
  case frameChunk k => exact absurd rfl (hk k)
  case emitCtrl c => cases hl
  case frameGetversion => exact ⟨_, frameCommand_leavesPacket (cmd := 0x00#8) (p := []) h ht⟩
  case frameErase a n => exact ⟨_, frameCommand_leavesPacket (cmd := 0x01#8) (p := erasePayload a n) h ht⟩
  case frameProgramHdr x y z a n =>
    exact ⟨_, frameCommand_leavesPacket (cmd := 0x02#8) (p := programPayload x y z a n) h ht⟩
  case frameJump a p => exact frameJumpPacket_leavesPacket h ht
  case pktGetversion | pktEraseflash | pktFlashprogram | pktJumptoaddress | pktCommandOther | pktChunk |
      ctrlRequestAcknowledge | ctrlRequestVersion => cases ho
  all_goals cases hf

/-- Settles O16: CRC_READ answers `crc`, which a framing operation leaves equal to its packet's checksum field. -/
theorem crcReadAnswersTheRegister : Obligations.CrcReadAnswersTheRegister := by
  refine ⟨fun _ => rfl, rfl, fun i s t hf ho hl h ht => ?_, fun _ hop => decodeRequest_of_op hop⟩
  by_cases hk : ∃ k, i = .frameChunk k
  · obtain ⟨k, rfl⟩ := hk
    obtain ⟨hcrc, htxq⟩ := frameOneChunk_leavesPacket (k := k) h ht
    refine ⟨_, chunkFramed k, t.crc, rfl, rfl, htxq, fun hno => absurd rfl (hno k), ?_⟩
    rintro _ ⟨⟩
    exact ⟨rfl, hcrc⟩
  · have hno : ∀ k, i ≠ .frameChunk k := fun k hik => hk ⟨k, hik⟩
    obtain ⟨body, hcrc, htxq⟩ := exec_leavesPacket hf ho hl hno h ht
    exact ⟨_, body, t.crc, rfl, rfl, htxq, fun _ => hcrc, fun k hik => absurd hik (hno k)⟩

/-! STATUS_READ (40_crc_engine.md R114). -/

/-- The status of a first BadControl fault. -/
def BadControlStatus (s : State) : Prop := s.fault = 1#1 ∧ s.faultReason = FaultReason.badControl.code

theorem BadControlStatus.statusWord {s : State} (h : BadControlStatus s) : statusWord s = 0x41#32 := by
  obtain ⟨hfault, hreason⟩ := h
  rw [Machine.statusWord, hfault, hreason]
  decide

/-- So STATUS_READ answers `0x41`. -/
theorem BadControlStatus.exec_statusRead {s : State} (h : BadControlStatus s) :
    ∃ u, exec .statusRead s = .next u ∧ u.results = s.results ++ [.status 0x41#32] :=
  ⟨_, rfl, by rw [← h.statusWord]⟩

theorem keepFirstReason_of_ne_zero {old : Nibble} (h : old ≠ 0#4) (r : FaultReason) : keepFirstReason old r = old :=
  if_neg h

/-- No effect changes a status that holds a reason (10_state.md R22). -/
theorem Effect.keeps_status {s t : State} {A : Answer} (he : Effect s A) (hA : A = .next t) (hf : s.fault = 1#1)
    (hr : s.faultReason ≠ 0#4) : t.fault = s.fault ∧ t.faultReason = s.faultReason := by
  cases he with
  | faults r =>
    cases hA
    exact ⟨hf.symm, keepFirstReason_of_ne_zero hr r⟩
  | answers r c h => cases hA; exact ⟨rfl, rfl⟩
  | emits c m h => cases hA; exact ⟨rfl, rfl⟩
  | delivers m => cases hA; exact ⟨rfl, rfl⟩

theorem BadControlStatus.exec {i : Instr} {s t : State} (hs : BadControlStatus s) (h : exec i s = .next t) :
    BadControlStatus t := by
  obtain ⟨hfault, hreason⟩ := hs
  have hne : s.faultReason ≠ 0#4 := by rw [hreason]; decide
  obtain ⟨hf, hr⟩ := (exec_effect i s).keeps_status h hfault hne
  exact ⟨hf.trans hfault, hr.trans hreason⟩

/-- Settles O18: the first fault sets the BadControl status, which every operation keeps. -/
theorem statusReadAnswersTheStatus : Obligations.StatusReadAnswersTheStatus := by
  refine ⟨fun _ => rfl, rfl, fun s _ hreason => ?_, fun i s t hf hr h => ?_, fun _ hop => decodeRequest_of_op hop⟩
  · have ht : BadControlStatus { setFault .badControl s with results := s.results ++ [.fault .badControl] } :=
      ⟨rfl, if_pos hreason⟩
    obtain ⟨u, hu, hres⟩ := ht.exec_statusRead
    exact ⟨_, u, rfl, hu, hres⟩
  · exact (BadControlStatus.exec ⟨hf, hr⟩ h).exec_statusRead

/-! The incremental checksum as a run (70_reset_and_hazards.md R253). -/

theorem run_succ_of_step (M : Host.Core) {s t : M.State} (k : Nat) (h : M.step s = .next t) :
    M.run (k + 1) s = M.run k t := by
  simp only [Host.Core.run, h]

/-- The request CRC_FEED `b`, as an input. -/
def feedInput (b : Byte) : Input := .code (.request { Request.ofOp 0x1#4 with a := b })

/-- A run on a feed for each byte makes the loop of CHECKSUM on `crc`. -/
theorem run_feeds (d : Message) (s : State) (h : s.inputs = d.map feedInput) :
    Host.Core.run core d.length s =
      .next { s with
        crc := feedWords s.crc d, inputs := [], results := s.results ++ List.replicate d.length .none } := by
  induction d generalizing s with
  | nil =>
    have hinputs : s.inputs = [] := h
    simp [Host.Core.run, ← hinputs]
  | cons b d ih =>
    have hstep : step s = .next ((setInputs (d.map feedInput) s).answered (crcWord s.crc (zext32 b)) .none) :=
      (step_code_ok h rfl).trans (exec_crcFeed b _)
    rw [List.length_cons, run_succ_of_step core _ hstep, ih _ rfl]
    simp [State.answered, List.replicate_succ]

/-- Settles O20: CRC_INIT starts the loop at `INIT`, where it computes the checksum. -/
theorem incrementalChecksumRun : Obligations.IncrementalChecksumRun := by
  intro d s h
  have hstep : step s = .next ((setInputs (d.map feedInput) s).answered Config.init .none) := step_code_ok h rfl
  rw [run_succ_of_step core _ hstep, run_feeds d _ rfl]
  simp [State.answered, List.replicate_succ, feedWords_init]

end Sys2Proof.Machine

namespace Sys2Proof.Machine

/-! The check of a received packet (42_deframer.md R150, R155) and the packets of 30_encoding.md R61, R62: the check
passes on exactly the packets, and the fields it then reads are those the packet was made of. -/

theorem be32_fromBe32_of_length {m : Message} (h : m.length = 4) : be32 (fromBe32 m) = m := by
  obtain ⟨x0, x1, x2, x3, rfl⟩ := List.length_eq_four.mp h
  exact be32_fromBe32 x0 x1 x2 x3

theorem slice_append_slice (m : Message) {i j : Nat} (hij : i ≤ j) (hj : m.length = j) :
    slice m 0 i ++ slice m i j = m := by
  subst hj
  simp [slice]

/-- A slice that starts within the bytes starts with the byte at its start. -/
theorem slice_eq_cons {m : Message} {i j : Nat} (hij : i < j) (hi : i < m.length) :
    slice m i j = byteAt m i :: slice m (i + 1) j := by
  have hlen : i < (m.take j).length := by rw [List.length_take]; omega
  rw [slice, List.drop_eq_getElem_cons hlen, List.getElem_take, byteAt, List.getD_eq_getElem _ _ hi, slice]

theorem lengthByte_of_toNat {b : Byte} {n : Nat} (h : n = b.toNat) : lengthByte n = b := by
  rw [h, lengthByte, BitVec.ofNat_toNat, BitVec.setWidth_eq]

/-- What the check has found where it passes: the sizes agree, and the message is its first `1 + L` bytes, then their
checksum. -/
theorem checkPacket_ok {pktMin lenMax : Nat} {cover : Message → Message} {m : Message} {c : Word}
    (h : checkPacket pktMin lenMax cover m = .ok c) :
    pktMin ≤ m.length ∧ (byteAt m 0).toNat ≤ lenMax ∧ m.length = (byteAt m 0).toNat + 5 ∧
      m = slice m 0 (1 + (byteAt m 0).toNat) ++ be32 (checksum (cover (slice m 0 (1 + (byteAt m 0).toNat)))) := by
  unfold checkPacket at h
  split at h
  · cases h
  · rename_i hmin
    dsimp only at h
    split at h
    · cases h
    · rename_i hlen
      split at h
      · cases h
      · rename_i hfield
        obtain ⟨hmax, hsize⟩ := not_or.mp hlen
        have hsize := not_not.mp hsize
        refine ⟨by omega, by omega, hsize, ?_⟩
        rw [← not_not.mp hfield, be32_fromBe32_of_length (by rw [slice_length]; omega),
          slice_append_slice m (by omega) (by omega)]

/-- The check passes on a length byte and as many bytes, with the checksum of what it covers. -/
theorem checkPacket_framed {pktMin lenMax : Nat} (cover : Message → Message) {l : Byte} {body : Message}
    (hl : l.toNat = body.length) (hmin : pktMin ≤ body.length + 5) (hmax : body.length ≤ lenMax) :
    checkPacket pktMin lenMax cover (l :: body ++ be32 (checksum (cover (l :: body)))) =
      .ok (checksum (cover (l :: body))) := by
  generalize hc : checksum (cover (l :: body)) = c
  have hlen : (l :: body ++ be32 c).length = body.length + 5 := by simp
  have hbyte : (byteAt (l :: body ++ be32 c) 0).toNat = body.length := hl
  have hframed : slice (l :: body ++ be32 c) 0 (1 + body.length) = l :: body := by
    simp [slice, Nat.add_comm 1]
  have hfield : slice (l :: body ++ be32 c) (1 + body.length) (5 + body.length) = be32 c := by
    rw [slice, List.take_of_length_le (by omega), Nat.add_comm 1]
    exact List.drop_left
  unfold checkPacket
  rw [if_neg (by omega)]
  dsimp only
  rw [hbyte, if_neg (by omega), hframed, hfield, fromBe32_be32, hc, if_neg (not_not.mpr rfl)]

/-- A received command packet that passes the check is the packet of its command byte and payload. -/
theorem checkCommand_ok {m : Message} {c : Word} (h : checkCommand m = .ok c) :
    (receivedPayload m).length ≤ 254 ∧ m = commandPacket (byteAt m 1) (receivedPayload m) := by
  obtain ⟨hmin, hmax, hsize, hm⟩ := checkPacket_ok h
  simp only [Config.cmdPktMin, Config.lenMax] at hmin hmax
  have hlen : (receivedPayload m).length = (byteAt m 0).toNat - 1 := by
    rw [receivedPayload, slice_length]; omega
  have hcovered : slice m 0 (1 + (byteAt m 0).toNat) = commandCovered (byteAt m 1) (receivedPayload m) := by
    rw [slice_eq_cons (by omega) (by omega), slice_eq_cons (by omega) (by omega), commandCovered,
      lengthByte_of_toNat (b := byteAt m 0) (by omega)]
    rfl
  refine ⟨by omega, ?_⟩
  rw [hcovered] at hm
  exact hm

/-- A received chunk packet that passes the check is the packet of its chunk. -/
theorem checkChunk_ok {config : Config} {m : Message} {c : Word} (h : checkChunk config m = .ok c) :
    1 ≤ (receivedChunk m).length ∧ (receivedChunk m).length ≤ 252 ∧
      m = chunkPacket config (receivedChunk m) := by
  obtain ⟨hmin, hmax, hsize, hm⟩ := checkPacket_ok h
  simp only [Config.chunkPktMin, Config.chunkMax] at hmin hmax
  have hlen : (receivedChunk m).length = (byteAt m 0).toNat := by
    rw [receivedChunk, slice_length]; omega
  have hframed : slice m 0 (1 + (byteAt m 0).toNat) = chunkFramed (receivedChunk m) := by
    rw [slice_eq_cons (by omega) (by omega), chunkFramed, lengthByte_of_toNat hlen]
    rfl
  refine ⟨by omega, by omega, ?_⟩
  rw [hframed] at hm
  exact hm

theorem checkCommand_commandPacket (cmd : Byte) {p : Message} (hp : p.length ≤ 254) :
    checkCommand (commandPacket cmd p) = .ok (checksum (commandCovered cmd p)) := by
  refine checkPacket_framed (body := cmd :: p) id ?_ ?_ ?_
  · rw [lengthByte_toNat (by omega), List.length_cons, Nat.add_comm]
  · simp
  · simp only [List.length_cons, Config.lenMax]; omega

theorem checkChunk_chunkPacket (config : Config) {k : Message} (h1 : 1 ≤ k.length) (h2 : k.length ≤ 252) :
    checkChunk config (chunkPacket config k) = .ok (checksum (chunkCovered config k)) :=
  checkPacket_framed (chunkCover config) (lengthByte_toNat (by omega)) (by simp only [Config.chunkPktMin]; omega) h2

/-! The outbound messages of the invariant are those the packet builders make. -/

theorem isCommandPacket_iff (m : Message) :
    IsCommandPacket m ↔ ∃ cmd p, p.length ≤ 254 ∧ m = commandPacket cmd p := Iff.rfl

theorem isChunkPacket_iff (config : Config) (m : Message) :
    IsChunkPacket config m ↔ ∃ k : Message, 1 ≤ k.length ∧ k.length ≤ 252 ∧ m = chunkPacket config k := by
  cases h : config.chunkCrcIncludesLength <;>
    simp [IsChunkPacket, chunkPacket, chunkFramed, lengthByte, h]

/-! The rows of the command packets (30_encoding.md R66, R67, R69; log 8). -/

/-- The row of a command byte and a payload: a CommandKind as its builder sends it, or PKT_COMMAND_OTHER. -/
inductive CommandRow : Byte → Message → Instr → Prop where
  | getversion : CommandRow 0x00#8 [] .pktGetversion
  | eraseflash (a n : Byte) : CommandRow 0x01#8 (erasePayload a n) (.pktEraseflash a n)
  | flashprogram (x y z : Byte) (a n : Word) :
    CommandRow 0x02#8 (programPayload x y z a n) (.pktFlashprogram x y z a n)
  | jumptoaddress (a : Word) (p : Byte) (h : persistAllowed a p = true) :
    CommandRow 0x03#8 (jumpPayload a p) (.pktJumptoaddress a p)
  | other (cmd : Byte) (p : Message) (h : isKindPayload cmd p = false) : CommandRow cmd p (.pktCommandOther cmd p)

/-- Eleven bytes, written out as the decoder reads a FlashProgram payload (30_encoding.md R67). -/
theorem exists_eleven_of_length : ∀ {p : Message}, p.length = 11 →
    ∃ x y z a0 a1 a2 a3 s0 s1 s2 s3, p = [x, y, z, a0, a1, a2, a3, s0, s1, s2, s3]
  | [x, y, z, a0, a1, a2, a3, s0, s1, s2, s3], _ => ⟨x, y, z, a0, a1, a2, a3, s0, s1, s2, s3, rfl⟩

theorem programPayload_fromBe32 (x y z a0 a1 a2 a3 s0 s1 s2 s3 : Byte) :
    programPayload x y z (fromBe32 [a0, a1, a2, a3]) (fromBe32 [s0, s1, s2, s3]) =
      [x, y, z, a0, a1, a2, a3, s0, s1, s2, s3] := by
  rw [programPayload, be32_fromBe32, be32_fromBe32]
  rfl

theorem jumpPayload_fromBe32 (a0 a1 a2 a3 p : Byte) :
    jumpPayload (fromBe32 [a0, a1, a2, a3]) p = [a0, a1, a2, a3, p] := by
  rw [jumpPayload, be32_fromBe32]
  rfl

theorem isKindPayload_jumpPayload (a0 a1 a2 a3 p : Byte) :
    isKindPayload 0x03#8 [a0, a1, a2, a3, p] = persistAllowed (fromBe32 [a0, a1, a2, a3]) p := by
  simp [isKindPayload]

theorem isKindPayload_jump_of_ne {p : Message} (h : ∀ a0 a1 a2 a3 q, p ≠ [a0, a1, a2, a3, q]) :
    isKindPayload 0x03#8 p = false := by
  unfold isKindPayload
  split
  · contradiction
  · contradiction
  · contradiction
  · split
    · exact absurd rfl (h _ _ _ _ _)
    · rfl
  · rfl

theorem decodeCommandBody_row (cmd : Byte) (p : Message) : CommandRow cmd p (decodeCommandBody cmd p) := by
  unfold decodeCommandBody
  split
  · rename_i hcmd
    cases BitVec.eq_of_toNat_eq (y := 0x00#8) hcmd
    split
    · exact .getversion
    · rename_i hno
      exact .other _ _ (decide_eq_false fun h => hno (List.length_eq_zero_iff.mp h))
  · rename_i hcmd
    cases BitVec.eq_of_toNat_eq (y := 0x01#8) hcmd
    split
    · exact .eraseflash _ _
    · rename_i hno
      refine .other _ _ (decide_eq_false fun h => ?_)
      obtain ⟨a, n, hp⟩ := List.length_eq_two.mp h
      exact hno a n hp
  · rename_i hcmd
    cases BitVec.eq_of_toNat_eq (y := 0x02#8) hcmd
    split
    · rw [← programPayload_fromBe32]
      exact .flashprogram _ _ _ _ _
    · rename_i hno
      refine .other _ _ (decide_eq_false fun h => ?_)
      obtain ⟨x, y, z, a0, a1, a2, a3, s0, s1, s2, s3, hp⟩ := exists_eleven_of_length h
      exact hno _ _ _ _ _ _ _ _ _ _ _ hp
  · rename_i hcmd
    cases BitVec.eq_of_toNat_eq (y := 0x03#8) hcmd
    split
    · split
      · rename_i hallowed
        rw [← jumpPayload_fromBe32]
        exact .jumptoaddress _ _ hallowed
      · rename_i hallowed
        refine .other _ _ ?_
        rw [isKindPayload_jumpPayload]
        exact Bool.eq_false_of_not_eq_true hallowed
    · exact .other _ _ (isKindPayload_jump_of_ne ‹_›)
  · rename_i h0 h1 h2 h3
    refine .other _ _ ?_
    unfold isKindPayload
    split
    · contradiction
    · contradiction
    · contradiction
    · contradiction
    · rfl

theorem CommandRow.isOutboundCode {cmd : Byte} {p : Message} {i : Instr} (h : CommandRow cmd p i) :
    IsOutboundCode i = true := by
  cases h <;> rfl

/-- A row is encoded as the packet of its command byte and payload. -/
theorem CommandRow.encode {cmd : Byte} {p : Message} {i : Instr} (h : CommandRow cmd p i) (config : Config) :
    encode config i = .wire .command (commandPacket cmd p) := by
  cases h <;> rfl

theorem CommandRow.wf {cmd : Byte} {p : Message} {i : Instr} (h : CommandRow cmd p i) (hp : p.length ≤ 254) :
    i.wf = true := by
  cases h with
  | getversion => rfl
  | eraseflash a n => rfl
  | flashprogram x y z a n => rfl
  | jumptoaddress a q hq => exact hq
  | other _ _ hkind => simp [Instr.wf, hkind, hp]

/-! The decoder by wire format (30_encoding.md section 1). -/

/-- The instruction is well-formed, and the message is its encoding in this format. -/
def IsEncodingOf (config : Config) (f : WireFormat) (m : Message) (i : Instr) : Prop :=
  i.wf = true ∧ encode config i = .wire f m

theorem decodeCommand_ok {m : Message} {i : Instr} (h : decodeCommand m = .ok i) :
    (∃ c, checkCommand m = .ok c) ∧ i = decodeCommandBody (byteAt m 1) (receivedPayload m) := by
  unfold decodeCommand at h
  split at h
  · cases h
  · cases h
  · cases h
  · rename_i c hc
    cases h
    exact ⟨⟨c, hc⟩, rfl⟩

theorem decodeChunk_ok {config : Config} {m : Message} {i : Instr} (h : decodeChunk config m = .ok i) :
    (∃ c, checkChunk config m = .ok c) ∧ i = .pktChunk (receivedChunk m) := by
  unfold decodeChunk at h
  split at h
  · cases h
  · cases h
  · cases h
  · rename_i c hc
    cases h
    exact ⟨⟨c, hc⟩, rfl⟩

theorem decodeCommand_isEncodingOf (config : Config) {m : Message} {i : Instr} (h : decodeCommand m = .ok i) :
    IsEncodingOf config .command m i := by
  obtain ⟨⟨c, hc⟩, rfl⟩ := decodeCommand_ok h
  obtain ⟨hp, hm⟩ := checkCommand_ok hc
  have hrow := decodeCommandBody_row (byteAt m 1) (receivedPayload m)
  exact ⟨hrow.wf hp, (hrow.encode config).trans (congrArg _ hm.symm)⟩

theorem decodeChunk_isEncodingOf {config : Config} {m : Message} {i : Instr} (h : decodeChunk config m = .ok i) :
    IsEncodingOf config .chunk m i := by
  obtain ⟨⟨c, hc⟩, rfl⟩ := decodeChunk_ok h
  obtain ⟨h1, h2, hm⟩ := checkChunk_ok hc
  exact ⟨Bool.and_eq_true_iff.mpr ⟨decide_eq_true h1, decide_eq_true h2⟩, congrArg (Code.wire .chunk) hm.symm⟩

theorem decodeControl_isEncodingOf (config : Config) {m : Message} {i : Instr} (h : decodeControl m = .ok i) :
    IsEncodingOf config .control m i := by
  unfold decodeControl at h
  split at h
  · cases h
    exact ⟨rfl, congrArg _ (Eq.symm ‹_›)⟩
  · split at h
    · cases h
      exact ⟨rfl, congrArg _ (Eq.symm ‹_›)⟩
    · cases h

theorem decodeResponse_isEncodingOf (config : Config) (m : Message) :
    IsEncodingOf config .response m (decodeResponse m) := by
  unfold decodeResponse
  split
  · exact ⟨rfl, congrArg _ (Eq.symm ‹_›)⟩
  · split
    · exact ⟨rfl, congrArg _ (Eq.symm ‹_›)⟩
    · split
      · exact ⟨rfl, rfl⟩
      · rename_i hack hnack _ hno
        have h3 : m.length ≠ 3 := fun h => by
          obtain ⟨x, y, z, hm⟩ := List.length_eq_three.mp h
          exact hno x y z hm
        exact ⟨by simp [Instr.wf, hack, hnack, h3], rfl⟩

theorem decode_wire_isEncodingOf {config : Config} {f : WireFormat} {m : Message} {i : Instr}
    (h : decode config (.wire f m) = .ok i) : IsEncodingOf config f m i := by
  cases f with
  | command => exact decodeCommand_isEncodingOf config h
  | chunk => exact decodeChunk_isEncodingOf h
  | control => exact decodeControl_isEncodingOf config h
  | response =>
    cases h
    exact decodeResponse_isEncodingOf config m

theorem decodeCommand_commandPacket (cmd : Byte) {p : Message} (hp : p.length ≤ 254) :
    ∃ i, decodeCommand (commandPacket cmd p) = .ok i ∧ IsOutboundCode i = true := by
  simp only [decodeCommand, checkCommand_commandPacket cmd hp]
  exact ⟨_, rfl, (decodeCommandBody_row _ _).isOutboundCode⟩

theorem decodeChunk_chunkPacket (config : Config) {k : Message} (h1 : 1 ≤ k.length) (h2 : k.length ≤ 252) :
    ∃ i, decodeChunk config (chunkPacket config k) = .ok i ∧ IsOutboundCode i = true := by
  simp only [decodeChunk, checkChunk_chunkPacket config h1 h2]
  exact ⟨_, rfl, rfl⟩

/-- Settles O42: the decoder inverts the encoder, by format; each kind of outbound message passes its format's check. -/
theorem everyDecodedMessageIsItsEncoding : Obligations.EveryDecodedMessageIsItsEncoding := by
  refine ⟨fun config f m i => decode_wire_isEncodingOf, fun config m hm => ?_⟩
  obtain hcmd | hchunk | hctrl | hctrl := hm
  · obtain ⟨cmd, p, hp, rfl⟩ := (isCommandPacket_iff m).mp hcmd
    exact ⟨.command, decodeCommand_commandPacket cmd hp⟩
  · obtain ⟨k, h1, h2, rfl⟩ := (isChunkPacket_iff config m).mp hchunk
    exact ⟨.chunk, decodeChunk_chunkPacket config h1 h2⟩
  · subst hctrl
    exact ⟨.control, _, rfl, rfl⟩
  · subst hctrl
    exact ⟨.control, _, rfl, rfl⟩

end Sys2Proof.Machine

namespace Sys2Proof.Machine

/-! The invariant (41_framer.md R122): what sends nothing and keeps no new packet keeps it, and so does everything that
is sent or kept out of messages that are already outbound. -/

/-- `raise Fault` leaves the status consistent: the fault flag and a reason of R201. -/
theorem StatusConsistent.setFault {s : State} (h : StatusConsistent s) (r : FaultReason) :
    StatusConsistent (setFault r s) := by
  obtain ⟨-, hle⟩ := h
  have hreason : keepFirstReason s.faultReason r ≠ 0#4 ∧ (keepFirstReason s.faultReason r).toNat ≤ 5 := by
    unfold keepFirstReason
    split
    · cases r <;> decide
    · exact ⟨‹_›, hle⟩
  obtain ⟨hne, hle'⟩ := hreason
  exact ⟨⟨fun h0 => absurd h0 (by simp), fun h0 => absurd h0 hne⟩, hle'⟩

/-- The host goes from `h` to `h'` without sending anything, with the packet it had, and to no phase that may send that
packet unless it was in one. -/
def HostEnv.KeepsMessages (h h' : HostEnv) : Prop :=
  h'.sent = h.sent ∧ h'.packet = h.packet ∧ (h'.phase.holdsPacket = true → h.phase.holdsPacket = true)

theorem HostEnv.KeepsMessages.refl (h : HostEnv) : h.KeepsMessages h := ⟨rfl, rfl, id⟩

theorem HostEnv.KeepsMessages.packet {h h' : HostEnv} (hh : h.KeepsMessages h') : h'.packet = h.packet := by
  obtain ⟨-, hpacket, -⟩ := hh
  exact hpacket

theorem HostEnv.KeepsMessages.finish (r : HostReport) (h : HostEnv) : h.KeepsMessages (h.finish r) :=
  ⟨rfl, rfl, nofun⟩

theorem HostEnv.waitReturns_keepsMessages {h h' : HostEnv} (hw : h.waitReturns = some h') : h.KeepsMessages h' := by
  unfold HostEnv.waitReturns at hw
  split at hw
  · split at hw <;> cases hw
    exact ⟨rfl, rfl, nofun⟩
  · rename_i hphase
    split at hw <;> cases hw
    exact ⟨rfl, rfl, fun _ => by rw [hphase]; rfl⟩
  · rename_i hphase
    split at hw <;> cases hw
    exact ⟨rfl, rfl, fun _ => by rw [hphase]; rfl⟩
  · split at hw <;> cases hw
    exact ⟨rfl, rfl, nofun⟩
  all_goals cases hw

theorem HostEnv.waitExhausted_keepsMessages (h : HostEnv) : h.KeepsMessages h.waitExhausted := by
  unfold HostEnv.waitExhausted
  dsimp only
  split
  · rename_i hphase
    exact ⟨rfl, rfl, fun _ => by rw [hphase]; rfl⟩
  · rename_i hphase
    exact ⟨rfl, rfl, fun _ => by rw [hphase]; rfl⟩
  · rename_i hphase
    exact ⟨rfl, rfl, fun _ => by rw [hphase]; rfl⟩
  · exact ⟨rfl, rfl, nofun⟩
  all_goals exact .refl h

/-- A wait that returns or else goes to `h'`. -/
theorem HostEnv.KeepsMessages.waitReturns_getD {h h' : HostEnv} (hh : h.KeepsMessages h') :
    h.KeepsMessages (h.waitReturns.getD h') := by
  cases hw : h.waitReturns with
  | none => exact hh
  | some k => exact HostEnv.waitReturns_keepsMessages hw

/-- Where the host went on after an issued operation. -/
theorem issue_eq_next {i : Instr} {s t : State} {andThen : State → State} (ht : issue i s andThen = .next t) :
    ∃ u, exec i s = .next u ∧ andThen u = t := by
  obtain ⟨u, hu, hi⟩ := issue_next i s andThen
  exact ⟨u, hu, Host.Outcome.next.inj (hi.symm.trans ht)⟩

/-- An operation touches the host's slots only. -/
theorem Effect.host {s t : State} {A : Answer} (he : Effect s A) (hA : A = .next t) :
    ∃ l, t.host = { s.host with slots := l } := by
  cases he with
  | faults r => cases hA; exact ⟨_, rfl⟩
  | answers r c h => cases hA; exact ⟨_, rfl⟩
  | emits c m h => cases hA; exact ⟨_, rfl⟩
  | delivers m => cases hA; exact ⟨_, rfl⟩

section

variable {s t : State}

theorem setHost_inv (h : s.Inv) {env : HostEnv} (hsent : ∀ m ∈ env.sent, IsOutbound s.config m)
    (hkept : env.phase.holdsPacket = true → IsOutbound s.config env.packet) : (setHost env s).Inv := by
  obtain ⟨hstatus, htxq, -, -⟩ := h
  exact ⟨hstatus, htxq, hsent, hkept⟩

theorem HostEnv.KeepsMessages.inv {env : HostEnv} (he : s.host.KeepsMessages env) (h : s.Inv) :
    (setHost env s).Inv := by
  obtain ⟨-, -, hsent, hkept⟩ := id h
  obtain ⟨hsame, hpacket, hphase⟩ := he
  exact setHost_inv h (hsame ▸ hsent) fun hp => hpacket ▸ hkept (hphase hp)

theorem resetBlock_inv (h : s.Inv) : (resetBlock s).Inv := by
  obtain ⟨-, -, hsent, hkept⟩ := h
  exact ⟨⟨iff_of_true rfl rfl, Nat.zero_le 5⟩, nofun, hsent, hkept⟩

theorem publishHead_inv (h : s.Inv) : (publishHead s).Inv := by
  cases hq : s.txq with
  | nil => rwa [publishHead_nil hq]
  | cons m q =>
    obtain ⟨hstatus, htxq, hsent, hkept⟩ := h
    rw [hq, List.forall_mem_cons] at htxq
    obtain ⟨hm, hrest⟩ := htxq
    rw [publishHead_cons hq]
    exact ⟨hstatus, hrest, List.forall_mem_append.mpr ⟨hsent, List.forall_mem_singleton.mpr hm⟩, hkept⟩

theorem publishAll_inv (h : s.Inv) : (publishAll s).Inv := by
  obtain ⟨hstatus, htxq, hsent, hkept⟩ := h
  exact ⟨hstatus, nofun, List.forall_mem_append.mpr ⟨hsent, htxq⟩, hkept⟩

theorem Effect.inv {A : Answer} (he : Effect s A) (hA : A = .next t) (h : s.Inv) : t.Inv := by
  obtain ⟨hstatus, htxq, hsent, hkept⟩ := h
  cases he with
  | faults r => cases hA; exact ⟨hstatus.setFault r, htxq, hsent, hkept⟩
  | answers r c hr => cases hA; exact ⟨hstatus, htxq, hsent, hkept⟩
  | emits c m hm =>
    cases hA
    exact ⟨hstatus, List.forall_mem_append.mpr ⟨htxq, List.forall_mem_singleton.mpr hm⟩, hsent, hkept⟩
  | delivers m => cases hA; exact ⟨hstatus, htxq, hsent, hkept⟩

/-- The packet that the host keeps stood in `txq`. -/
theorem keepPacket_inv (queued : Nat) (rest : List Instr) (h : s.Inv) : (keepPacket queued rest s).Inv := by
  obtain ⟨-, htxq, hsent, -⟩ := id h
  unfold keepPacket
  split
  · rename_i m hdrop
    have hm : m ∈ s.txq := List.mem_of_mem_drop (hdrop ▸ List.mem_singleton_self m)
    exact setHost_inv h hsent fun _ => htxq m hm
  · exact (HostEnv.KeepsMessages.finish _ _).inv h

@[simp] theorem sendPacket_phase (s : State) : (sendPacket s).host.phase = s.host.phase := by
  unfold sendPacket
  split <;> rfl

@[simp] theorem sendPacket_packet (s : State) : (sendPacket s).host.packet = s.host.packet := by
  unfold sendPacket
  split <;> rfl

theorem sendPacket_inv (h : s.Inv) (hp : s.host.phase.holdsPacket = true) : (sendPacket s).Inv := by
  unfold sendPacket
  split
  · exact publishAll_inv h
  · obtain ⟨-, -, hsent, hkept⟩ := id h
    exact setHost_inv h (List.forall_mem_append.mpr ⟨hsent, List.forall_mem_singleton.mpr (hkept hp)⟩) hkept

theorem transmit_inv (h : s.Inv) (hp : s.host.phase.holdsPacket = true) : (transmit s).Inv := by
  unfold transmit
  split
  · exact HostEnv.KeepsMessages.inv ⟨rfl, rfl, nofun⟩ h
  · refine HostEnv.KeepsMessages.inv ⟨rfl, rfl, fun _ => ?_⟩ (sendPacket_inv h hp)
    rw [sendPacket_phase, hp]

theorem beginSequence_inv (h : s.Inv) : (beginSequence s).Inv := by
  unfold beginSequence
  split
  · exact h
  · exact HostEnv.KeepsMessages.inv ⟨rfl, rfl, nofun⟩ h

theorem frameNext_inv (h : s.Inv) (ht : frameNext s = .next t) : t.Inv := by
  unfold frameNext at ht
  split at ht
  · split at ht
    · cases ht
      exact HostEnv.KeepsMessages.inv ⟨rfl, rfl, nofun⟩ h
    · cases ht
      exact (HostEnv.KeepsMessages.finish _ _).inv h
  · have hclear : (setHost { s.host with slots := Slots.clear } s).Inv :=
      HostEnv.KeepsMessages.inv ⟨rfl, rfl, id⟩ h
    obtain ⟨u, hu, rfl⟩ := issue_eq_next ht
    exact keepPacket_inv _ _ ((exec_effect _ _).inv hu hclear)

theorem sendControl_inv {c : Byte} {p : Phase} (h : s.Inv)
    (hp : p.holdsPacket = true → s.host.phase.holdsPacket = true) (ht : sendControl c p s = .next t) : t.Inv := by
  obtain ⟨u, hu, rfl⟩ := issue_eq_next ht
  obtain ⟨l, hhost⟩ := (exec_effect _ s).host hu
  have hgoto : (publishAll u).host.KeepsMessages ((publishAll u).host.goto p) :=
    ⟨rfl, rfl, fun hh => by rw [publishAll_host, HostEnv_publish_phase, hhost]; exact hp hh⟩
  exact hgoto.inv (publishAll_inv ((exec_effect _ s).inv hu h))

theorem hostAdvance_inv (h : s.Inv) (ht : hostAdvance s = .next t) : t.Inv := by
  unfold hostAdvance at ht
  generalize hphase : s.host.phase = p at ht
  cases p with
  | idle => cases ht; exact beginSequence_inv h
  | frame => exact frameNext_inv h ht
  | transmit => cases ht; exact transmit_inv h (by rw [hphase]; rfl)
  | poll => exact sendControl_inv h (fun _ => by rw [hphase]; rfl) ht
  | requestVersion => exact sendControl_inv (p := .awaitVersion) h nofun ht
  | awaitAcknowledge | awaitNegativeAcknowledge | awaitUnrecognized | awaitVersion =>
    cases ht
    exact (HostEnv.KeepsMessages.refl _).waitReturns_getD.inv h

theorem runInput_inv {i : Input} (h : s.Inv) (ht : runInput i s = .next t) : t.Inv := by
  cases i with
  | code c => exact (runCode_effect c s).inv ht h
  | publish => cases ht; exact publishHead_inv h
  | reset => cases ht; exact resetBlock_inv h
  | start q => cases ht; exact HostEnv.KeepsMessages.inv ⟨rfl, rfl, id⟩ h
  | advance => exact hostAdvance_inv h ht
  | timeout => cases ht; exact (HostEnv.waitExhausted_keepsMessages _).waitReturns_getD.inv h
  | restart =>
    cases ht
    obtain ⟨-, -, hsent, -⟩ := id h
    exact setHost_inv h hsent nofun

end

/-- Settles O49: every input keeps the invariant, and a step takes one or none. -/
theorem stepKeepsTheInvariant : Obligations.StepKeepsTheInvariant := by
  intro s t h ht
  cases hs : s.inputs with
  | nil =>
    rw [step_nil hs] at ht
    cases ht
    exact h
  | cons i rest =>
    rw [step_cons hs] at ht
    exact runInput_inv (s := setInputs rest s) h ht

/-! The kept packet (41_framer.md R123). -/

section

variable {s t : State}

theorem publishHead_packet (s : State) : (publishHead s).host.packet = s.host.packet := by
  cases hq : s.txq with
  | nil => rw [publishHead_nil hq]
  | cons m q => rw [publishHead_cons hq]; rfl

theorem beginSequence_packet (s : State) : (beginSequence s).host.packet = s.host.packet := by
  unfold beginSequence
  split <;> rfl

theorem transmit_packet (s : State) : (transmit s).host.packet = s.host.packet := by
  unfold transmit
  split
  · rfl
  · exact sendPacket_packet s

theorem sendControl_packet {c : Byte} {p : Phase} (ht : sendControl c p s = .next t) :
    t.host.packet = s.host.packet := by
  obtain ⟨u, hu, rfl⟩ := issue_eq_next ht
  obtain ⟨l, hhost⟩ := (exec_effect _ s).host hu
  simp [hhost]

/-- Of the host's own actions only the building of the next packet changes the kept packet. -/
theorem hostAdvance_packet (hp : s.host.phase ≠ .frame) (ht : hostAdvance s = .next t) :
    t.host.packet = s.host.packet := by
  unfold hostAdvance at ht
  generalize hphase : s.host.phase = p at ht
  cases p with
  | idle => cases ht; exact beginSequence_packet s
  | frame => exact absurd hphase hp
  | transmit => cases ht; exact transmit_packet s
  | poll => exact sendControl_packet ht
  | requestVersion => exact sendControl_packet ht
  | awaitAcknowledge | awaitNegativeAcknowledge | awaitUnrecognized | awaitVersion =>
    cases ht
    exact (HostEnv.KeepsMessages.refl _).waitReturns_getD.packet

theorem runInput_packet {i : Input} (hframe : i = .advance → s.host.phase ≠ .frame) (hrestart : i ≠ .restart)
    (ht : runInput i s = .next t) : t.host.packet = s.host.packet := by
  cases i with
  | code c =>
    obtain ⟨l, hhost⟩ := (runCode_effect c s).host ht
    rw [hhost]
  | publish => cases ht; exact publishHead_packet s
  | reset => cases ht; rfl
  | start q => cases ht; rfl
  | advance => exact hostAdvance_packet (hframe rfl) ht
  | timeout => cases ht; exact (HostEnv.waitExhausted_keepsMessages _).waitReturns_getD.packet
  | restart => exact absurd rfl hrestart

end

/-- An attempt after the first publishes the kept packet, and uses itself up. -/
theorem transmit_retry {s : State} (h0 : 0 < s.host.attemptsLeft) (hl : s.host.attemptsLeft < s.host.plan.limit) :
    transmit s = setHost { s.host.publish [s.host.packet] with
      attemptsLeft := s.host.attemptsLeft - 1,
      phase := if s.host.plan.poll then .poll else .awaitAcknowledge } s := by
  have hsend : sendPacket s = setHost (s.host.publish [s.host.packet]) s := if_neg (Nat.ne_of_lt hl)
  rw [transmit, if_neg (Nat.pos_iff_ne_zero.mp h0), hsend]
  rfl

/-- Settles O55: by the input a step takes, and by what an attempt after the first sends. -/
theorem retriesResendTheSamePacket : Obligations.RetriesResendTheSamePacket := by
  refine ⟨fun s t ht hframe hrestart => ?_, fun s rest hs hphase h0 hl => ?_⟩
  · cases hs : s.inputs with
    | nil =>
      rw [step_nil hs] at ht
      cases ht
      rfl
    | cons i rest =>
      rw [step_cons hs] at ht
      refine runInput_packet (s := setInputs rest s) ?_ ?_ ht
      · rintro rfl hp
        exact hframe ⟨hp, rest, hs⟩
      · rintro rfl
        exact hrestart rest hs
  · have hstep : step s = .next (transmit (setInputs rest s)) := by
      rw [step_cons hs]
      simp [runInput, hostAdvance, hphase]
    rw [hstep, transmit_retry (s := setInputs rest s) h0 hl]
    exact ⟨_, rfl, rfl, rfl, rfl, rfl⟩

end Sys2Proof.Machine

namespace Sys2Proof.Machine

/-! The framing operations of the port (41_framer.md R120 to R134). The command builders come down to FRAME_CMD, so its
two outcomes are theirs. -/

theorem exec_frameCmd (cmd : Byte) {p : Message} (s : State) (hp : p.length ≤ 254) :
    exec (.frameCmd cmd p) s = .next (s.emitted (checksum (commandCovered cmd p)) (commandPacket cmd p)) :=
  frameCommand_eq_emitPacket cmd s hp

theorem exec_frameCmd_overflow (cmd : Byte) {p : Message} (s : State) (hp : 254 < p.length) :
    exec (.frameCmd cmd p) s = .next (s.faulted .lengthOverflow 2#4) :=
  if_pos hp

/-- Settles O22: FRAME_CMD by the length of its payload. -/
theorem frameCmdEmitsTheCommandPacket : Obligations.FrameCmdEmitsTheCommandPacket :=
  ⟨fun cmd _ s hp => exec_frameCmd cmd s hp, fun cmd _ s hp => exec_frameCmd_overflow cmd s hp, by decide +kernel,
    fun _ hop => decodeRequest_of_op hop⟩

theorem exec_frameChunk {k : Message} (s : State) (h1 : 1 ≤ k.length) (h2 : k.length ≤ 252) :
    exec (.frameChunk k) s = .next (s.emitted (checksum (chunkCovered s.config k)) (chunkPacket s.config k)) :=
  frameOneChunk_eq_emitPacket s h1 h2

/-- Settles O23: FRAME_CHUNK by the length of its chunk and, for what the checksum covers, by the parameter. -/
theorem frameChunkEmitsTheChunkPacket : Obligations.FrameChunkEmitsTheChunkPacket := by
  refine ⟨fun k s h1 h2 hc => ?_, fun k s h1 h2 hc => ?_, fun k s hk => if_pos hk, by decide +kernel,
    fun _ hop => decodeRequest_of_op hop⟩
  · rw [exec_frameChunk s h1 h2, chunkPacket, chunkCovered_false _ _ hc]
    rfl
  · rw [exec_frameChunk s h1 h2, chunkPacket, chunkCovered_true _ _ hc]
    rfl

theorem exec_emitCtrl {c : Byte} (s : State) (hc : c = 0x04#8 ∨ c = 0x05#8) :
    exec (.emitCtrl c) s = .next (s.emitted s.crc [c]) := by
  obtain rfl | rfl := hc
  · rfl
  · rfl

/-- Settles O24: EMIT_CTRL by its byte, and FRAME_CMD 04 by running its checksum. -/
theorem emitCtrlEmitsABareByte : Obligations.EmitCtrlEmitsABareByte := by
  refine ⟨fun c s hc => exec_emitCtrl s hc, fun c s h4 h5 => if_pos ⟨h4, h5⟩, fun s => ?_,
    fun _ hop => decodeRequest_of_op hop⟩
  have hcrc : checksum (commandCovered 0x04#8 []) = 0x330DAA08#32 := by decide +kernel
  have hpacket : commandPacket 0x04#8 [] = [0x01#8, 0x04#8, 0x33#8, 0x0D#8, 0xAA#8, 0x08#8] := by decide +kernel
  rw [exec_frameCmd (p := []) 0x04#8 s (Nat.zero_le 254), hcrc, hpacket]

theorem exec_frameGetversion (s : State) : exec .frameGetversion s = exec (.frameCmd 0x00#8 []) s := rfl

theorem exec_frameErase (n m : Byte) (s : State) :
    exec (.frameErase n m) s = exec (.frameCmd 0x01#8 (erasePayload n m)) s := rfl

theorem exec_frameProgramHdr (x y z : Byte) (a n : Word) (s : State) :
    exec (.frameProgramHdr x y z a n) s = exec (.frameCmd 0x02#8 (programPayload x y z a n)) s := rfl

/-- Settles O25: the expansion's packet, by running its checksum. -/
theorem getVersionPacket : Obligations.GetVersionPacket := by
  refine ⟨fun s => ?_, fun _ hop => decodeRequest_of_op hop⟩
  have hcrc : checksum (commandCovered 0x00#8 []) = 0x2009DCD4#32 := by decide +kernel
  have hpacket : commandPacket 0x00#8 [] = [0x01#8, 0x00#8, 0x20#8, 0x09#8, 0xDC#8, 0xD4#8] := by decide +kernel
  rw [exec_frameGetversion, exec_frameCmd (p := []) 0x00#8 s (Nat.zero_le 254), hcrc, hpacket]

/-- Settles O26: the expansion's packet, whatever the two bytes. -/
theorem eraseFlashPacket : Obligations.EraseFlashPacket :=
  ⟨fun n m s => exec_frameCmd (p := erasePayload n m) 0x01#8 s (by simp [erasePayload]), by decide +kernel,
    fun _ hop => decodeRequest_of_op hop⟩

/-- Settles O27: the expansion's packet, whatever the fields. -/
theorem flashProgramHeaderPacket : Obligations.FlashProgramHeaderPacket := by
  refine ⟨fun x y z a n s => ?_, by decide +kernel, fun _ hop => decodeRequest_of_op hop⟩
  exact exec_frameCmd (p := programPayload x y z a n) 0x02#8 s (by simp [programPayload_length])

theorem exec_frameJump_badPersist {p : Byte} (s : State) (hF : p ≠ 0xFF#8) (hA : p ≠ 0xAA#8) :
    exec (.frameJump 0xFFFFFFFF#32 p) s = .next (s.faulted .badPersist 5#4) := by
  have hnone : forcedPersist 0xFFFFFFFF#32 p = .none := (if_pos rfl).trans (if_pos ⟨hF, hA⟩)
  change frameJumpPacket 0xFFFFFFFF#32 p s = _
  rw [frameJumpPacket, hnone]
  rfl

/-- Where the persist check passes with `q`, FRAME_JUMP is the FRAME_CMD that sends `q`. -/
theorem exec_frameJump_of_forcedPersist {a : Word} {p q : Byte} (s : State) (h : forcedPersist a p = .some q) :
    exec (.frameJump a p) s = exec (.frameCmd 0x03#8 (jumpPayload a q)) s := by
  change frameJumpPacket a p s = _
  rw [frameJumpPacket, h]
  rfl

theorem forcedPersist_sentinel {p : Byte} (hp : p = 0xFF#8 ∨ p = 0xAA#8) :
    forcedPersist 0xFFFFFFFF#32 p = .some p := by
  obtain rfl | rfl := hp
  · rfl
  · rfl

theorem forcedPersist_of_ne {a : Word} (ha : a ≠ 0xFFFFFFFF#32) (p : Byte) : forcedPersist a p = .some 0xFF#8 :=
  if_neg ha

theorem exec_frameJump_emits {a : Word} {p q : Byte} (s : State) (h : forcedPersist a p = .some q) :
    exec (.frameJump a p) s =
      .next (s.emitted (checksum (commandCovered 0x03#8 (jumpPayload a q)))
        (commandPacket 0x03#8 (jumpPayload a q))) := by
  rw [exec_frameJump_of_forcedPersist s h, exec_frameCmd _ s (by simp [jumpPayload_length])]

/-- Settles O28: FRAME_JUMP by what its persist check answers. -/
theorem jumpPacketForcesPersist : Obligations.JumpPacketForcesPersist :=
  ⟨fun p s hp => exec_frameJump_emits s (forcedPersist_sentinel hp),
    fun p s hF hA => exec_frameJump_badPersist s hF hA,
    fun a p s ha => exec_frameJump_emits s (forcedPersist_of_ne ha p), by decide +kernel,
    fun _ hop => decodeRequest_of_op hop⟩

/-- The four builders of command packets (41_framer.md R130 to R133). -/
def IsBuilder (i : Instr) : Prop :=
  i = .frameGetversion ∨ (∃ n m, i = .frameErase n m) ∨ (∃ x y z a n, i = .frameProgramHdr x y z a n) ∨
    ∃ a p, i = .frameJump a p

/-- A builder faults BadPersist, or is a FRAME_CMD of at most 11 payload bytes (41_framer.md R134). -/
theorem IsBuilder.exec_cases {i : Instr} (hi : IsBuilder i) (s : State) :
    exec i s = .next (s.faulted .badPersist 5#4) ∨
      ∃ cmd p, p.length ≤ 11 ∧ exec i s = exec (.frameCmd cmd p) s := by
  obtain rfl | ⟨n, m, rfl⟩ | ⟨x, y, z, a, n, rfl⟩ | ⟨a, p, rfl⟩ := hi
  · exact .inr ⟨_, [], Nat.zero_le 11, exec_frameGetversion s⟩
  · exact .inr ⟨_, _, by simp [erasePayload], exec_frameErase n m s⟩
  · exact .inr ⟨_, _, (programPayload_length x y z a n).le, exec_frameProgramHdr x y z a n s⟩
  · obtain ⟨rfl, ⟨hF, hA⟩, -⟩ | ⟨-, -, h⟩ | ⟨-, h⟩ := forcedPersist_cases a p
    · exact .inl (exec_frameJump_badPersist s hF hA)
    · exact .inr ⟨_, _, by simp [jumpPayload_length], exec_frameJump_of_forcedPersist s h⟩
    · exact .inr ⟨_, _, by simp [jumpPayload_length], exec_frameJump_of_forcedPersist s h⟩

theorem IsBuilder.no_lengthOverflow {i : Instr} (hi : IsBuilder i) {s t : State} (h : exec i s = .next t) :
    t.results ≠ s.results ++ [.fault .lengthOverflow] := by
  obtain hf | ⟨cmd, p, hp, hf⟩ := hi.exec_cases s
  · cases hf.symm.trans h
    simp [State.faulted]
  · rw [hf, exec_frameCmd cmd s (by omega)] at h
    cases h
    simp [State.emitted]

/-- Settles O29: each builder by its expansion, whose payload is too short for LengthOverflow. -/
theorem buildersEqualTheirExpansions : Obligations.BuildersEqualTheirExpansions := by
  refine ⟨exec_frameGetversion, exec_frameErase, exec_frameProgramHdr, ?_, ?_, ?_, ?_⟩
  · rintro _ p s rfl hF hA
    exact exec_frameJump_badPersist s hF hA
  · rintro _ p s rfl hp
    exact exec_frameJump_of_forcedPersist s (forcedPersist_sentinel hp)
  · intro a p s ha
    exact exec_frameJump_of_forcedPersist s (forcedPersist_of_ne ha p)
  · exact fun i s t hi h => IsBuilder.no_lengthOverflow hi h

/-! One message or a fault (41_framer.md R120). -/

/-- What a framing operation does: it raises a fault, emits a packet that ends in the checksum left in `crc`, or emits a
control byte and leaves `crc`. -/
inductive Frames (s : State) : Answer → Prop where
  | faults (r : FaultReason) : Frames s (raiseFault r s)
  | packet (body : Message) (c : Word) (h2 : 2 ≤ body.length) (h256 : body.length ≤ 256) :
    Frames s (emitPacket c (body ++ be32 c) s)
  | control (b : Byte) (hb : b = 0x04#8 ∨ b = 0x05#8) : Frames s (emitPacket s.crc [b] s)

theorem frameCommand_frames (cmd : Byte) (p : Message) (s : State) : Frames s (frameCommand cmd p s) := by
  obtain ⟨-, h⟩ | ⟨hp, h⟩ := frameCommand_cases cmd p s <;> rw [h]
  · exact .faults _
  · have hlen : (commandCovered cmd p).length = p.length + 2 := rfl
    exact .packet _ _ (by omega) (by omega)

theorem frameOneChunk_frames (k : Message) (s : State) : Frames s (frameOneChunk k s) := by
  obtain ⟨-, h⟩ | ⟨h1, h2, h⟩ := frameOneChunk_cases k s <;> rw [h]
  · exact .faults _
  · have hlen : (chunkFramed k).length = k.length + 1 := rfl
    exact .packet _ _ (by omega) (by omega)

theorem emitControl_frames (b : Byte) (s : State) : Frames s (emitControl b s) := by
  obtain ⟨-, h⟩ | ⟨hb, h⟩ := emitControl_cases b s <;> rw [h]
  · exact .faults _
  · exact .control b hb

theorem frameJumpPacket_frames (a : Word) (p : Byte) (s : State) : Frames s (frameJumpPacket a p s) := by
  unfold frameJumpPacket
  split
  · exact .faults _
  · exact frameCommand_frames _ _ _

theorem exec_frames {i : Instr} (s : State) (hi : IsFraming i = true) : Frames s (exec i s) := by
  cases i
  case frameCmd c p => exact frameCommand_frames _ _ _
  case frameChunk k => exact frameOneChunk_frames _ _
  case emitCtrl c => exact emitControl_frames _ _
  case frameGetversion => exact frameCommand_frames 0x00#8 [] s
  case frameErase a b => exact frameCommand_frames 0x01#8 (erasePayload a b) s
  case frameProgramHdr x y z a n => exact frameCommand_frames 0x02#8 (programPayload x y z a n) s
  case frameJump a p => exact frameJumpPacket_frames _ _ _
  case pktGetversion => exact frameCommand_frames 0x00#8 [] s
  case pktEraseflash a b => exact frameCommand_frames 0x01#8 (erasePayload a b) s
  case pktFlashprogram x y z a n => exact frameCommand_frames 0x02#8 (programPayload x y z a n) s
  case pktJumptoaddress a p => exact frameJumpPacket_frames _ _ _
  case pktCommandOther c p => exact frameCommand_frames _ _ _
  case pktChunk k => exact frameOneChunk_frames _ _
  case ctrlRequestAcknowledge => exact emitControl_frames 0x04#8 s
  case ctrlRequestVersion => exact emitControl_frames 0x05#8 s
  all_goals cases hi

/-- Settles O30: by the three things a framing operation can do. -/
theorem framingEmitsExactlyOneMessage : Obligations.FramingEmitsExactlyOneMessage := by
  intro i s hi
  generalize hA : exec i s = A
  have hf := exec_frames s hi
  rw [hA] at hf
  cases hf with
  | faults r => exact ⟨_, rfl, .inl ⟨r, rfl, rfl, rfl⟩⟩
  | packet body c h2 h256 => exact ⟨_, rfl, .inr ⟨rfl, _, rfl, .inl ⟨body, rfl, h2, h256⟩⟩⟩
  | control b hb =>
    have hm : [b] = [0x04#8] ∨ [b] = [0x05#8] := hb.imp (congrArg fun v => [v]) (congrArg fun v => [v])
    exact ⟨_, rfl, .inr ⟨rfl, _, rfl, .inr ⟨hm, rfl⟩⟩⟩

/-! The partition of an image (41_framer.md R125). -/

theorem chunks_length (image : Message) : (chunks image).length = (image.length + 251) / 252 := by
  simp [chunks, chunkCount]

/-- Chunk `i` of an image, its bounds as the partition has them. -/
theorem chunks_getElem (image : Message) (i : Nat) (h : i < (chunks image).length) :
    (chunks image)[i] = slice image (252 * i) (min (252 * (i + 1)) image.length) := by
  simp [chunks]

theorem chunks_getElem_length (image : Message) (i : Nat) (h : i < (chunks image).length) :
    (chunks image)[i].length = min (252 * (i + 1)) image.length - 252 * i := by
  rw [chunks_getElem, slice_length, Nat.min_assoc, Nat.min_self]

/-- The slices of 252 bytes up to the `n`-th, one after the other, are the first `252 * n` bytes. -/
theorem flatten_slices (image : Message) (n : Nat) :
    ((List.range n).map fun i => slice image (252 * i) (min (252 * (i + 1)) image.length)).flatten =
      image.take (252 * n) := by
  induction n with
  | zero => rfl
  | succ n ih =>
    have hslice : slice image (252 * n) (min (252 * (n + 1)) image.length) =
        (image.take (252 * (n + 1))).drop (252 * n) := by
      rw [slice, ← List.take_take, List.take_length]
    have htake : image.take (252 * n) = (image.take (252 * (n + 1))).take (252 * n) := by
      rw [List.take_take, Nat.min_eq_left (by omega)]
    rw [List.range_succ, List.map_append, List.flatten_append, ih, List.map_singleton, List.flatten_singleton, hslice,
      htake, List.take_append_drop]

theorem chunks_flatten (image : Message) : (chunks image).flatten = image := by
  have hall : image.length ≤ 252 * chunkCount image.length := by simp only [chunkCount, Config.chunkMax]; omega
  exact (flatten_slices image _).trans (List.take_of_length_le hall)

theorem chunk_length_bounds {image k : Message} (hk : k ∈ chunks image) : 1 ≤ k.length ∧ k.length ≤ 252 := by
  obtain ⟨i, hi, rfl⟩ := List.mem_iff_getElem.mp hk
  have hcount := chunks_length image
  rw [chunks_getElem_length]
  omega

/-- Settles O31: the chunks' number and lengths by arithmetic, their concatenation by induction on how many
there are. -/
theorem chunksPartitionTheImage : Obligations.ChunksPartitionTheImage := by
  refine ⟨rfl, fun image => ⟨chunks_length image, chunks_flatten image, fun i h => ?_, fun k hk s => ?_⟩⟩
  · have hcount := chunks_length image
    have hlen := chunks_getElem_length image i h
    obtain ⟨hmin, hmax⟩ := chunk_length_bounds (List.getElem_mem h)
    exact ⟨chunks_getElem image i h, fun hi => by omega, fun hi => by omega, hmin, hmax⟩
  · obtain ⟨hmin, hmax⟩ := chunk_length_bounds hk
    exact ⟨_, exec_frameChunk s hmin hmax, rfl⟩

end Sys2Proof.Machine

namespace Sys2Proof.Machine

/-! The deframer (42_deframer.md R150 to R157). DEFRAME_CMD and DEFRAME_CHUNK answer their check of the message, so an
equation for each outcome of the check is one for each verdict. -/

theorem exec_deframeCmd {m : Message} {check : PacketCheck} (s : State) (h : checkCommand m = check) :
    exec (.deframeCmd m) s = answerCheck check (.okCommand (byteAt m 1) (receivedPayload m)) s :=
  h ▸ rfl

theorem exec_deframeChunk {m : Message} {check : PacketCheck} (s : State) (h : checkChunk s.config m = check) :
    exec (.deframeChunk m) s = answerCheck check (.okChunk (receivedChunk m)) s :=
  h ▸ rfl

/-! What was framed is given back (R156). -/

theorem receivedPayload_commandPacket (cmd : Byte) {p : Message} (hp : p.length ≤ 254) :
    receivedPayload (commandPacket cmd p) = p := by
  have hlength : (byteAt (commandPacket cmd p) 0).toNat = 1 + p.length := lengthByte_toNat (by omega)
  rw [receivedPayload, hlength, slice, ← Nat.add_assoc, Nat.add_comm]
  simp [commandPacket, commandCovered]

theorem receivedChunk_chunkPacket (config : Config) {k : Message} (hk : k.length ≤ 252) :
    receivedChunk (chunkPacket config k) = k := by
  have hlength : (byteAt (chunkPacket config k) 0).toNat = k.length := lengthByte_toNat (by omega)
  rw [receivedChunk, hlength, slice, Nat.add_comm]
  simp [chunkPacket, chunkFramed]

/-- DEFRAME_CMD of a command packet. -/
theorem exec_deframeCmd_commandPacket (cmd : Byte) {p : Message} (s : State) (hp : p.length ≤ 254) :
    exec (.deframeCmd (commandPacket cmd p)) s =
      .next (s.answered (checksum (commandCovered cmd p)) (.verdict (.okCommand cmd p))) := by
  rw [exec_deframeCmd s (checkCommand_commandPacket cmd hp), receivedPayload_commandPacket cmd hp]
  rfl

/-- DEFRAME_CHUNK of a chunk packet that was framed with the same parameter value. -/
theorem exec_deframeChunk_chunkPacket {k : Message} (s : State) (h1 : 1 ≤ k.length) (h2 : k.length ≤ 252) :
    exec (.deframeChunk (chunkPacket s.config k)) s =
      .next (s.answered (checksum (chunkCovered s.config k)) (.verdict (.okChunk k))) := by
  rw [exec_deframeChunk s (checkChunk_chunkPacket s.config h1 h2), receivedChunk_chunkPacket s.config h2]
  rfl

/-- Settles O34: the framer emits the packet of its operands, and the deframer reads them back from it. -/
theorem deframeOfFrameGivesItBack : Obligations.DeframeOfFrameGivesItBack := by
  refine ⟨fun cmd p s hp => ?_, fun k s h1 h2 => ?_⟩
  · exact ⟨_, _, _, exec_frameCmd cmd s hp, rfl, exec_deframeCmd_commandPacket cmd _ hp, rfl⟩
  · exact ⟨_, _, _, exec_frameChunk s h1 h2, rfl, exec_deframeChunk_chunkPacket (s.emitted _ _) h1 h2, rfl⟩

/-! The status after an operation that does not fault (R153, 10_state.md R22). -/

/-- Only a fault's effect writes the status. -/
theorem Effect.status_of_no_fault {s t : State} {A : Answer} (he : Effect s A) (hA : A = .next t)
    (ht : ∀ r, t.results ≠ s.results ++ [.fault r]) : t.fault = s.fault ∧ t.faultReason = s.faultReason := by
  cases he with
  | faults r => cases hA; exact absurd rfl (ht r)
  | answers r c h => cases hA; exact ⟨rfl, rfl⟩
  | emits c m h => cases hA; exact ⟨rfl, rfl⟩
  | delivers m => cases hA; exact ⟨rfl, rfl⟩

/-- A deframer's answer is a verdict, whatever the check found. -/
theorem answerCheck_eq_answered (check : PacketCheck) (ok : Verdict) (s : State) :
    ∃ v c, answerCheck check ok s = .next (s.answered c (.verdict v)) := by
  cases check with
  | short => exact ⟨_, s.crc, rfl⟩
  | badLength => exact ⟨_, s.crc, rfl⟩
  | badChecksum c => exact ⟨_, c, rfl⟩
  | ok c => exact ⟨_, c, rfl⟩

/-- Settles O7: by the effect of the operation, and by the answer of the two checks. -/
theorem statusChangesOnlyOnAFault : Obligations.StatusChangesOnlyOnAFault := by
  refine ⟨fun i s t h ht => (exec_effect i s).status_of_no_fault h ht, fun m s => ?_⟩
  obtain ⟨v, c, hv⟩ := answerCheck_eq_answered (checkCommand m) (.okCommand (byteAt m 1) (receivedPayload m)) s
  obtain ⟨w, d, hw⟩ := answerCheck_eq_answered (checkChunk s.config m) (.okChunk (receivedChunk m)) s
  exact ⟨_, _, v, w, hv, rfl, hw, rfl, rfl, rfl, rfl, rfl⟩

/-! The check of a received packet by its tests in order (R150 to R152, R155): what it answers where each one fails, and
where the checksum comparison is reached. -/

theorem byteAt_eq_getElem {m : Message} {i : Nat} (h : i < m.length) : byteAt m i = m[i] :=
  List.getD_eq_getElem _ _ h

section

variable {lenMax : Nat} {cover : Message → Message} {m : Message}

theorem checkPacket_short (h : m.length < 6) : checkPacket 6 lenMax cover m = .short :=
  if_pos h

theorem checkPacket_badLength (h : 6 ≤ m.length) (hsize : lenMax < m[0].toNat ∨ m.length ≠ m[0].toNat + 5) :
    checkPacket 6 lenMax cover m = .badLength := by
  rw [← byteAt_eq_getElem (by omega)] at hsize
  unfold checkPacket
  rw [if_neg (Nat.not_lt.mpr h)]
  exact if_pos hsize

/-- The checksum comparison, reached where the sizes agree. -/
theorem checkPacket_compares (h : 6 ≤ m.length) (hmax : m[0].toNat ≤ lenMax) (hsize : m.length = m[0].toNat + 5) :
    checkPacket 6 lenMax cover m =
      if fromBe32 ((m.take (m[0].toNat + 5)).drop (1 + m[0].toNat)) = checksum (cover (m.take (1 + m[0].toNat))) then
        .ok (checksum (cover (m.take (1 + m[0].toNat))))
      else .badChecksum (checksum (cover (m.take (1 + m[0].toNat)))) := by
  have hbyte : byteAt m 0 = m[0] := byteAt_eq_getElem (by omega)
  unfold checkPacket
  rw [if_neg (Nat.not_lt.mpr h)]
  simp only [hbyte, slice, List.drop_zero, Nat.add_comm 5]
  rw [if_neg (by omega), ite_not]

end

/-- Settles O32: by the check's tests in their order. -/
theorem deframeCmdVerdicts : Obligations.DeframeCmdVerdicts := by
  have hmax : ∀ b : Byte, b.toNat ≤ Config.lenMax := fun b => Nat.le_of_lt_succ b.isLt
  refine ⟨fun m s h => exec_deframeCmd s (checkPacket_short h), fun m s h hsize => ?_, fun m s h hsize hfield => ?_,
    fun m s h hsize hfield => ?_, fun _ hop => decodeRequest_of_op hop⟩
  · exact exec_deframeCmd s (checkPacket_badLength h (.inr hsize))
  · exact exec_deframeCmd s ((checkPacket_compares h (hmax _) hsize).trans (if_neg hfield))
  · rw [exec_deframeCmd s ((checkPacket_compares h (hmax _) hsize).trans (if_pos hfield)), receivedPayload,
      byteAt_eq_getElem (by omega), byteAt_eq_getElem (by omega)]
    rfl

/-! The word form of the checksum is one-to-one in each argument, so a changed byte changes the checksum (R157). -/

theorem crcWord_left_injective {c d w : Word} (h : crcWord c w = crcWord d w) : c = d :=
  (BitVec.xor_left_inj w).mp (shiftSteps_injective 32 h)

theorem crcWord_right_injective {c w x : Word} (h : crcWord c w = crcWord c x) : w = x :=
  (BitVec.xor_right_inj c).mp (shiftSteps_injective 32 h)

theorem zext32_injective {b d : Byte} (h : zext32 b = zext32 d) : b = d :=
  BitVec.eq_of_toNat_eq (by rw [← zext32_toNat b, h, zext32_toNat])

theorem feedWords_injective {c d : Word} {data : Message} (h : feedWords c data = feedWords d data) : c = d := by
  induction data generalizing c d with
  | nil => exact h
  | cons b data ih => exact crcWord_left_injective (ih h)

theorem feedWords_set_ne (c : Word) {data : Message} {j : Nat} {v : Byte} (hj : j < data.length) (hv : data[j] ≠ v) :
    feedWords c (data.set j v) ≠ feedWords c data := by
  induction data generalizing c j with
  | nil => cases hj
  | cons b data ih =>
    cases j with
    | zero =>
      intro h
      exact hv (zext32_injective (crcWord_right_injective (feedWords_injective h))).symm
    | succ j => exact ih _ (Nat.lt_of_succ_lt_succ hj) hv

theorem checksum_set_ne {data : Message} {j : Nat} {v : Byte} (hj : j < data.length) (hv : data[j] ≠ v) :
    checksum (data.set j v) ≠ checksum data := by
  rw [← feedWords_init, ← feedWords_init]
  exact feedWords_set_ne _ hj hv

/-- No first byte leaves the register at `INIT`: the one word whose shifts end there has its top bit clear, and `INIT` with
a byte XORed in at its low end has it set. -/
theorem crcWord_init_zext32_ne (b : Byte) : crcWord Config.init (zext32 b) ≠ Config.init := by
  have hpre : shiftSteps 32 0x46AF6449#32 = Config.init := by decide +kernel
  intro h
  have htop := congrArg (BitVec.getLsbD · 31) (shiftSteps_injective 32 (h.trans hpre.symm))
  simp [zext32, Config.init] at htop

/-- So a first byte more always gives another checksum. -/
theorem checksum_cons_ne (b : Byte) (data : Message) : checksum (b :: data) ≠ checksum data := by
  rw [← feedWords_init, ← feedWords_init]
  exact fun h => crcWord_init_zext32_ne b (feedWords_injective h)

/-! The check of bytes framed with some checksum field (R150, R155). -/

section

variable {lenMax : Nat} {cover : Message → Message} {l : Byte} {body : Message}

theorem checkPacket_wrong_length (v : Word) (hbody : 1 ≤ body.length) (hl : l.toNat ≠ body.length) :
    checkPacket 6 lenMax cover (l :: body ++ be32 v) = .badLength := by
  have hlen : (l :: body ++ be32 v).length = body.length + 5 := by simp
  exact checkPacket_badLength (by omega) (.inr fun h => hl (Nat.add_right_cancel (hlen.symm.trans h)).symm)

theorem checkPacket_wrong_field {v : Word} (hbody : 1 ≤ body.length) (hl : l.toNat = body.length)
    (hmax : body.length ≤ lenMax) (hv : v ≠ checksum (cover (l :: body))) :
    checkPacket 6 lenMax cover (l :: body ++ be32 v) = .badChecksum (checksum (cover (l :: body))) := by
  have hlen : (l :: body ++ be32 v).length = l.toNat + 5 := by simp [hl]
  have hfirst : (l :: body ++ be32 v)[0] = l := rfl
  have hcovered : (l :: body ++ be32 v).take (1 + l.toNat) = l :: body := by simp [hl, Nat.add_comm 1]
  have hfield : ((l :: body ++ be32 v).take (l.toNat + 5)).drop (1 + l.toNat) = be32 v := by
    rw [List.take_of_length_le hlen.le, hl, Nat.add_comm]
    exact List.drop_left
  rw [checkPacket_compares (by omega) (hl.trans_le hmax) hlen, hfirst, hcovered, hfield, fromBe32_be32, if_neg hv]

end

/-- The two parameter values never give the same checksum of a chunk (R155). -/
theorem checksum_chunkCovered_ne {config config' : Config} (k : Message)
    (h : config.chunkCrcIncludesLength ≠ config'.chunkCrcIncludesLength) :
    checksum (chunkCovered config k) ≠ checksum (chunkCovered config' k) := by
  cases hc : config.chunkCrcIncludesLength with
  | false =>
    have hc' : config'.chunkCrcIncludesLength = true := by simpa [hc] using h
    rw [chunkCovered_false _ _ hc, chunkCovered_true _ _ hc']
    exact (checksum_cons_ne _ k).symm
  | true =>
    have hc' : config'.chunkCrcIncludesLength = false := by simpa [hc] using h
    rw [chunkCovered_true _ _ hc, chunkCovered_false _ _ hc']
    exact checksum_cons_ne _ k

/-- Settles O33: by the check's tests in their order, and by the checksums of the two parameter values. -/
theorem deframeChunkVerdicts : Obligations.DeframeChunkVerdicts := by
  refine ⟨fun m s h => exec_deframeChunk s (checkPacket_short h), fun m s h hsize => ?_,
    fun m cov s h hmax hsize hcov hfield => ?_, fun m cov s h hmax hsize hcov hfield => ?_, fun k s h1 h2 => ?_,
    fun _ hop => decodeRequest_of_op hop⟩
  · exact exec_deframeChunk s (checkPacket_badLength h hsize)
  · subst hcov
    exact exec_deframeChunk s ((checkPacket_compares h hmax hsize).trans (if_neg hfield))
  · subst hcov
    rw [exec_deframeChunk s ((checkPacket_compares h hmax hsize).trans (if_pos hfield)), receivedChunk,
      byteAt_eq_getElem (by omega)]
    rfl
  · have hcrc := checksum_chunkCovered_ne k
      (config := { chunkCrcIncludesLength := !s.config.chunkCrcIncludesLength }) (config' := s.config) (by simp)
    exact ⟨_, exec_deframeChunk s (checkPacket_wrong_field h1 (lengthByte_toNat (by omega)) h2 hcrc), rfl⟩

/-! One changed byte of a command packet (R157). -/

theorem checkCommand_set_length (cmd : Byte) {p : Message} {v : Byte} (hv : lengthByte (1 + p.length) ≠ v) :
    checkCommand ((commandPacket cmd p).set 0 v) = .badLength := by
  have hl : v.toNat ≠ (cmd :: p).length := fun h => hv (lengthByte_of_toNat (by rw [h, List.length_cons, Nat.add_comm]))
  exact checkPacket_wrong_length _ (by simp) hl

/-- A command packet's length byte counts its command byte and payload. -/
theorem lengthByte_commandPacket (cmd : Byte) {p : Message} (hp : p.length ≤ 254) :
    (lengthByte (1 + p.length)).toNat = (cmd :: p).length := by
  rw [lengthByte_toNat (by omega), List.length_cons, Nat.add_comm]

/-- A changed covered byte changes the checksum and not the field. -/
theorem checkCommand_set_covered (cmd : Byte) {p : Message} {i : Nat} {v : Byte} (hp : p.length ≤ 254)
    (hi : i + 1 < (commandCovered cmd p).length) (hv : (commandCovered cmd p)[i + 1] ≠ v) :
    ∃ c, checkCommand ((commandPacket cmd p).set (i + 1) v) = .badChecksum c := by
  have hset : (commandPacket cmd p).set (i + 1) v =
      lengthByte (1 + p.length) :: (cmd :: p).set i v ++ be32 (checksum (commandCovered cmd p)) :=
    List.set_append_left _ _ hi
  have hlen : ((cmd :: p).set i v).length = (cmd :: p).length := List.length_set
  have hmax : ((cmd :: p).set i v).length ≤ Config.lenMax := hlen.trans_le (Nat.succ_le_succ hp)
  rw [hset]
  exact ⟨_, checkPacket_wrong_field (by simp) ((lengthByte_commandPacket cmd hp).trans hlen.symm) hmax
    (checksum_set_ne hi hv).symm⟩

/-- A changed byte of a checksum field gives the field of another word. -/
theorem be32_set {c : Word} {k : Nat} {v : Byte} (hk : k < (be32 c).length) (hv : (be32 c)[k] ≠ v) :
    ∃ w, (be32 c).set k v = be32 w ∧ w ≠ c := by
  have hword : be32 (fromBe32 ((be32 c).set k v)) = (be32 c).set k v := be32_fromBe32_of_length List.length_set
  refine ⟨_, hword.symm, fun h => hv ?_⟩
  rw [h] at hword
  calc (be32 c)[k] = ((be32 c).set k v)[k]'(by rwa [List.length_set]) := List.getElem_of_eq hword hk
    _ = v := List.getElem_set_self _

/-- A changed byte of the field changes the field and not the checksum. -/
theorem checkCommand_set_field (cmd : Byte) {p : Message} {k : Nat} {v : Byte} (hp : p.length ≤ 254)
    (hk : k < (be32 (checksum (commandCovered cmd p))).length) (hv : (be32 (checksum (commandCovered cmd p)))[k] ≠ v) :
    ∃ c, checkCommand ((commandPacket cmd p).set ((commandCovered cmd p).length + k) v) = .badChecksum c := by
  obtain ⟨w, hw, hne⟩ := be32_set hk hv
  have hset : (commandPacket cmd p).set ((commandCovered cmd p).length + k) v = commandCovered cmd p ++ be32 w := by
    rw [← hw, commandPacket, List.set_append_right _ _ (Nat.le_add_right _ _), Nat.add_sub_cancel_left]
  have hmax : (cmd :: p).length ≤ Config.lenMax := Nat.succ_le_succ hp
  rw [hset]
  exact ⟨_, checkPacket_wrong_field (by simp) (lengthByte_commandPacket cmd hp) hmax hne⟩

/-- Every byte after the length byte is a covered byte or a field byte. -/
theorem checkCommand_set_succ (cmd : Byte) {p : Message} {i : Nat} {v : Byte} (hp : p.length ≤ 254)
    (h : i + 1 < (commandPacket cmd p).length) (hv : (commandPacket cmd p)[i + 1] ≠ v) :
    ∃ c, checkCommand ((commandPacket cmd p).set (i + 1) v) = .badChecksum c := by
  by_cases hi : i + 1 < (commandCovered cmd p).length
  · exact checkCommand_set_covered cmd hp hi fun hb => hv ((List.getElem_append_left hi).trans hb)
  · obtain ⟨k, hk⟩ := Nat.exists_eq_add_of_le (Nat.le_of_not_lt hi)
    simp only [hk, commandPacket, List.length_append, Nat.add_lt_add_iff_left,
      List.getElem_append_right (Nat.le_add_right _ k), Nat.add_sub_cancel_left] at h hv
    rw [hk]
    exact checkCommand_set_field cmd hp h hv

/-- Settles O35: by the place of the changed byte. A command packet without payload is also the chunk packet of its
command byte. -/
theorem oneChangedByteIsDetected : Obligations.OneChangedByteIsDetected := by
  refine ⟨fun cmd p j v s hp h hv => ?_, commandPacket 0x00#8 [], ⟨0x00#8, [], by decide, rfl⟩,
    ⟨[0x00#8], by decide, by decide, rfl⟩⟩
  cases j with
  | zero => exact ⟨_, exec_deframeCmd s (checkCommand_set_length cmd hv), rfl⟩
  | succ i =>
    obtain ⟨c, hc⟩ := checkCommand_set_succ cmd hp h hv
    exact ⟨_, exec_deframeCmd s hc, rfl⟩

/-! The classifier (R160), at the port and on delivery (60_exceptions.md R212). -/

theorem classify_versionReport (x y z : Byte) : classify [x, y, z] = .versionReport x y z := by
  simp [classify, byteAt]

theorem classify_unrecognized {m : Message} (hack : m ≠ [0xFF#8]) (hnack : m ≠ [0x01#8]) (hlen : m.length ≠ 3) :
    classify m = .unrecognized m := by
  rw [classify, if_neg hack, if_neg hnack, if_neg hlen]

theorem exec_classify {m : Message} {e : ResponseEvent} (s : State) (h : classify m = e) :
    exec (.classify m) s = .next (s.answered s.crc (.event e)) :=
  h ▸ rfl

theorem deliver_eq {m : Message} {e : ResponseEvent} (s : State) (h : classify m = e) :
    deliver m s =
      .next { s with
        results := s.results ++ [.event e],
        host := { s.host with slots := s.host.slots.set e } } :=
  h ▸ rfl

/-- Settles O36: the port's answer is the message's event. -/
theorem classifyIsTotal : Obligations.ClassifyIsTotal :=
  ⟨fun s => exec_classify s rfl, fun s => exec_classify s rfl,
    fun x y z s => exec_classify s (classify_versionReport x y z),
    fun _ s hack hnack hlen => exec_classify s (classify_unrecognized hack hnack hlen),
    fun _ hop => decodeRequest_of_op hop⟩

/-- Settles O38: a response code is the delivery of its message, which sets the slot of the message's event. -/
theorem responsesSetTheirSlot : Obligations.ResponsesSetTheirSlot :=
  ⟨fun s => deliver_eq s rfl, fun s => deliver_eq s rfl, fun x y z s => deliver_eq s (classify_versionReport x y z),
    fun _ s hack hnack hlen => deliver_eq s (classify_unrecognized hack hnack hlen)⟩

end Sys2Proof.Machine

namespace Sys2Proof.Machine

/-! The faults (60_exceptions.md R200 to R204): a faulting operation is `raise Fault`, so when it faults is when it equals
that. -/

/-- Settles O3: an operation whose result is a fault raised it, and a raised fault is precise. -/
theorem faultsArePrecise : Obligations.FaultsArePrecise := by
  refine ⟨fun i s t r h ht => ?_, exec_next⟩
  have hf : exec i s = raiseFault r s := (exec_effect i s).eq_raiseFault h ht
  exact Host.Outcome.next.inj (h.symm.trans hf)

/-- Settles O5: by the meaning of the reserved operation and the decoder's last line. -/
theorem reservedOpRaisesIllegalOp : Obligations.ReservedOpRaisesIllegalOp :=
  ⟨fun _ => rfl, fun _ hop => decodeRequest_of_op hop⟩

theorem raiseFault_inj {q r : FaultReason} {s : State} : raiseFault q s = raiseFault r s ↔ r = q := by
  refine ⟨fun h => ?_, fun h => h ▸ rfl⟩
  have hresults := congrArg State.results (Host.Outcome.next.inj h)
  simpa using hresults.symm

/-- An operation that answers a result that is no fault has raised none. -/
theorem ne_raiseFault {A : Answer} {s t : State} {q : OpResult} (hA : A = .next t)
    (ht : t.results = s.results ++ [q]) (hq : ∀ f, q ≠ .fault f) (r : FaultReason) : A ≠ raiseFault r s := by
  intro h
  have hresults := congrArg State.results (Host.Outcome.next.inj (hA.symm.trans h))
  exact hq r (by simpa [ht] using hresults)

theorem emitPacket_ne_raiseFault (c : Word) (m : Message) (s : State) (r : FaultReason) :
    emitPacket c m s ≠ raiseFault r s :=
  ne_raiseFault rfl rfl (by simp) r

theorem frameCommand_eq_raiseFault_iff {cmd : Byte} {p : Message} {s : State} {r : FaultReason} :
    frameCommand cmd p s = raiseFault r s ↔ 254 < p.length ∧ r = .lengthOverflow := by
  obtain ⟨hp, h⟩ | ⟨hp, h⟩ := frameCommand_cases cmd p s <;> rw [h]
  · rw [raiseFault_inj]
    exact (and_iff_right hp).symm
  · exact iff_of_false (emitPacket_ne_raiseFault _ _ s r) fun ⟨hlt, _⟩ => Nat.not_lt.mpr hp hlt

theorem frameOneChunk_eq_raiseFault_iff {k : Message} {s : State} {r : FaultReason} :
    frameOneChunk k s = raiseFault r s ↔ (k.length = 0 ∨ 252 < k.length) ∧ r = .badChunk := by
  obtain ⟨hk, h⟩ | ⟨h1, h2, h⟩ := frameOneChunk_cases k s <;> rw [h]
  · rw [raiseFault_inj]
    exact (and_iff_right hk).symm
  · exact iff_of_false (emitPacket_ne_raiseFault _ _ s r) (by omega)

theorem emitControl_eq_raiseFault_iff {c : Byte} {s : State} {r : FaultReason} :
    emitControl c s = raiseFault r s ↔ c ≠ 0x04#8 ∧ c ≠ 0x05#8 ∧ r = .badControl := by
  rw [← and_assoc]
  obtain ⟨hc, h⟩ | ⟨hc, h⟩ := emitControl_cases c s <;> rw [h]
  · rw [raiseFault_inj]
    exact (and_iff_right hc).symm
  · exact iff_of_false (emitPacket_ne_raiseFault _ _ s r) fun ⟨⟨h4, h5⟩, _⟩ => hc.elim h4 h5

/-- The persist check faults, and the five payload bytes never do. -/
theorem frameJumpPacket_eq_raiseFault_iff {a : Word} {p : Byte} {s : State} {r : FaultReason} :
    frameJumpPacket a p s = raiseFault r s ↔ a = 0xFFFFFFFF#32 ∧ p ≠ 0xFF#8 ∧ p ≠ 0xAA#8 ∧ r = .badPersist := by
  have hshort (q : Byte) : ¬ frameCommand 0x03#8 (jumpPayload a q) s = raiseFault r s := by
    simp [frameCommand_eq_raiseFault_iff, jumpPayload_length]
  obtain ⟨ha, ⟨hF, hA⟩, h⟩ | ⟨ha, hp, h⟩ | ⟨ha, h⟩ := forcedPersist_cases a p <;> simp only [frameJumpPacket, h]
  · simp [raiseFault_inj, ha, hF, hA]
  · exact iff_of_false (hshort p) fun ⟨_, hF, hA, _⟩ => hp.elim hF hA
  · exact iff_of_false (hshort 0xFF#8) fun ⟨ha', _⟩ => ha ha'

theorem answerCheck_ne_raiseFault (check : PacketCheck) (ok : Verdict) (s : State) (r : FaultReason) :
    answerCheck check ok s ≠ raiseFault r s := by
  obtain ⟨v, c, h⟩ := answerCheck_eq_answered check ok s
  exact ne_raiseFault h rfl (by simp) r

/-- The faults of 60_exceptions.md R201, by operation and operands; those of the wire rows by log 1. -/
def IsListedFault (i : Instr) (r : FaultReason) : Prop :=
  (i = .reservedF ∧ r = .illegalOp) ∨
  (∃ c p, (i = .frameCmd c p ∨ i = .pktCommandOther c p) ∧ 254 < p.length ∧ r = .lengthOverflow) ∨
  (∃ k, (i = .frameChunk k ∨ i = .pktChunk k) ∧ (k.length = 0 ∨ 252 < k.length) ∧ r = .badChunk) ∨
  (∃ c, i = .emitCtrl c ∧ c ≠ 0x04#8 ∧ c ≠ 0x05#8 ∧ r = .badControl) ∨
  (∃ p, (i = .frameJump 0xFFFFFFFF#32 p ∨ i = .pktJumptoaddress 0xFFFFFFFF#32 p) ∧ p ≠ 0xFF#8 ∧ p ≠ 0xAA#8 ∧
    r = .badPersist)

theorem exec_eq_raiseFault_iff {i : Instr} {s : State} {r : FaultReason} :
    exec i s = raiseFault r s ↔ IsListedFault i r := by
  cases i with
  | reservedF => exact raiseFault_inj.trans (by simp [IsListedFault])
  | frameCmd c p | pktCommandOther c p => exact frameCommand_eq_raiseFault_iff.trans (by simp [IsListedFault])
  | frameChunk k | pktChunk k => exact frameOneChunk_eq_raiseFault_iff.trans (by simp [IsListedFault])
  | emitCtrl c => exact emitControl_eq_raiseFault_iff.trans (by simp [IsListedFault])
  | frameJump a p | pktJumptoaddress a p =>
    exact frameJumpPacket_eq_raiseFault_iff.trans (by simp [IsListedFault])
  | frameGetversion | pktGetversion =>
    exact (frameCommand_eq_raiseFault_iff (cmd := 0x00#8) (p := [])).trans (by simp [IsListedFault])
  | frameErase a n | pktEraseflash a n =>
    exact (frameCommand_eq_raiseFault_iff (cmd := 0x01#8) (p := erasePayload a n)).trans
      (by simp [IsListedFault, erasePayload])
  | frameProgramHdr x y z a n | pktFlashprogram x y z a n =>
    exact (frameCommand_eq_raiseFault_iff (cmd := 0x02#8) (p := programPayload x y z a n)).trans
      (by simp [IsListedFault, programPayload_length])
  | ctrlRequestAcknowledge =>
    exact (emitControl_eq_raiseFault_iff (c := 0x04#8)).trans (by simp [IsListedFault])
  | ctrlRequestVersion =>
    exact (emitControl_eq_raiseFault_iff (c := 0x05#8)).trans (by simp [IsListedFault])
  | deframeCmd m | deframeChunk m =>
    exact iff_of_false (answerCheck_ne_raiseFault _ _ s r) (by simp [IsListedFault])
  | crcInit | crcFeed | crcRead | checksum | classify | statusRead | rspAcknowledge | rspNegativeAcknowledge |
    rspVersionReport | rspUnrecognized =>
    exact iff_of_false (ne_raiseFault rfl rfl (by simp) r) (by simp [IsListedFault])

/-- Settles O4: an operation's result is a fault where the operation raises it, which is where R201 lists it. -/
theorem faultsAreTheListedOnes : Obligations.FaultsAreTheListedOnes := by
  intro i s t r h
  refine Iff.trans ⟨(exec_effect i s).eq_raiseFault h, fun hf => ?_⟩ exec_eq_raiseFault_iff
  exact congrArg State.results (Host.Outcome.next.inj (h.symm.trans hf))

/-! No step stops the machine (60_exceptions.md R200). -/

theorem Effect.next {s : State} {A : Answer} (he : Effect s A) : ∃ t, A = .next t := by
  cases he <;> exact ⟨_, rfl⟩

theorem frameNext_next (s : State) : ∃ t, frameNext s = .next t := by
  unfold frameNext
  split
  · split <;> exact ⟨_, rfl⟩
  · obtain ⟨t, -, h⟩ := issue_next _ _ _
    exact ⟨_, h⟩

theorem sendControl_next (c : Byte) (p : Phase) (s : State) : ∃ t, sendControl c p s = .next t := by
  obtain ⟨t, -, h⟩ := issue_next _ _ _
  exact ⟨_, h⟩

theorem hostAdvance_next (s : State) : ∃ t, hostAdvance s = .next t := by
  unfold hostAdvance
  cases s.host.phase with
  | frame => exact frameNext_next s
  | poll | requestVersion => exact sendControl_next _ _ s
  | idle | transmit | awaitAcknowledge | awaitNegativeAcknowledge | awaitUnrecognized | awaitVersion => exact ⟨_, rfl⟩

theorem runInput_next (i : Input) (s : State) : ∃ t, runInput i s = .next t := by
  cases i with
  | code c => exact (runCode_effect c s).next
  | advance => exact hostAdvance_next s
  | publish | reset | start | timeout | restart => exact ⟨_, rfl⟩

theorem step_next (s : State) : ∃ t, step s = .next t := by
  cases hs : s.inputs with
  | nil => exact ⟨s, step_nil hs⟩
  | cons i rest => exact step_cons hs ▸ runInput_next i _

/-- The answer to a message that was rejected for `e`: nothing sent, the host as before, and the verdict or the fault that
93_implementation_defined.md X5 and X9 name. -/
def AnswersRejection (e : WireError) (s : State) (A : Answer) : Prop :=
  ∃ t : State, A = .next t ∧ t.txq = s.txq ∧ t.host = s.host ∧
    (e = .short → t.results = s.results ++ [OpResult.verdict .short] ∧ t.crc = s.crc ∧ t.fault = s.fault) ∧
    (e = .badLength → t.results = s.results ++ [OpResult.verdict .badLength] ∧ t.crc = s.crc ∧ t.fault = s.fault) ∧
    (e = .badChecksum → t.results = s.results ++ [OpResult.verdict .badChecksum] ∧ t.fault = s.fault) ∧
    (e = .notControl → t.results = s.results ++ [OpResult.fault .badControl] ∧ t.crc = s.crc ∧ t.fault = 1#1)

/-- The packet check rejects a message for `e`. -/
inductive PacketCheck.Rejects : PacketCheck → WireError → Prop where
  | short : Rejects .short .short
  | badLength : Rejects .badLength .badLength
  | badChecksum (c : Word) : Rejects (.badChecksum c) .badChecksum

theorem PacketCheck.Rejects.answersRejection {check : PacketCheck} {e : WireError} (h : check.Rejects e) (ok : Verdict)
    (s : State) : AnswersRejection e s (answerCheck check ok s) := by
  cases h with
  | short => exact ⟨_, rfl, rfl, rfl, fun _ => ⟨rfl, rfl, rfl⟩, nofun, nofun, nofun⟩
  | badLength => exact ⟨_, rfl, rfl, rfl, nofun, fun _ => ⟨rfl, rfl, rfl⟩, nofun, nofun⟩
  | badChecksum c => exact ⟨_, rfl, rfl, rfl, nofun, nofun, fun _ => ⟨rfl, rfl⟩, nofun⟩

theorem raiseFault_badControl_answersRejection (s : State) :
    AnswersRejection .notControl s (raiseFault .badControl s) :=
  ⟨_, rfl, rfl, rfl, nofun, nofun, nofun, fun _ => ⟨rfl, rfl, rfl⟩⟩

theorem decodeCommand_error {m : Message} {e : WireError} (h : decodeCommand m = .error e) :
    (checkCommand m).Rejects e := by
  unfold decodeCommand at h
  cases hcheck : checkCommand m with
  | short => rw [hcheck] at h; cases h; exact .short
  | badLength => rw [hcheck] at h; cases h; exact .badLength
  | badChecksum c => rw [hcheck] at h; cases h; exact .badChecksum c
  | ok c => rw [hcheck] at h; cases h

theorem decodeChunk_error {config : Config} {m : Message} {e : WireError} (h : decodeChunk config m = .error e) :
    (checkChunk config m).Rejects e := by
  unfold decodeChunk at h
  cases hcheck : checkChunk config m with
  | short => rw [hcheck] at h; cases h; exact .short
  | badLength => rw [hcheck] at h; cases h; exact .badLength
  | badChecksum c => rw [hcheck] at h; cases h; exact .badChecksum c
  | ok c => rw [hcheck] at h; cases h

theorem decodeControl_error {m : Message} {e : WireError} (h : decodeControl m = .error e) : e = .notControl := by
  unfold decodeControl at h
  split at h
  · cases h
  · split at h <;> cases h
    rfl

theorem runRejected_answersRejection {s : State} {f : WireFormat} {m : Message} {e : WireError}
    (h : decode s.config (.wire f m) = .error e) : AnswersRejection e s (runRejected f m s) := by
  cases f with
  | command => exact (decodeCommand_error h).answersRejection _ s
  | chunk => exact (decodeChunk_error h).answersRejection _ s
  | control =>
    cases decodeControl_error h
    exact raiseFault_badControl_answersRejection s
  | response => cases h

/-- Settles O44: by the input a step takes, and by the reason a message was rejected for. -/
theorem everyStepAnswersANextState : Obligations.EveryStepAnswersANextState := by
  refine ⟨step_next, fun s f m e rest hs hd => ?_⟩
  have hd' : decode (setInputs rest s).config (.wire f m) = .error e := hd
  rw [step_cons hs, runInput, runCode_error hd']
  exact runRejected_answersRejection hd'

end Sys2Proof.Machine

namespace Sys2Proof.Machine

/-! CLASSIFY commutes with every operation (60_exceptions.md R213): it leaves nothing but a result, and the results so far
do not steer an operation. -/

/-- The state with `l` as the results so far. -/
def setResults (l : List OpResult) (s : State) : State := { s with results := l }

/-- An operation that answers one result, which it appends, and for the rest does the same whatever the results so far. -/
def IgnoresResults (op : State → Answer) : Prop :=
  ∀ s, ∃ t r, ∀ l, op (setResults l s) = .next (setResults (l ++ [r]) t)

theorem raiseFault_ignoresResults (r : FaultReason) : IgnoresResults (raiseFault r) :=
  fun s => ⟨setFault r s, .fault r, fun _ => rfl⟩

theorem emitPacket_ignoresResults (c : Word) (m : Message) : IgnoresResults (emitPacket c m) :=
  fun s => ⟨emit m (setCrc c s), .none, fun _ => rfl⟩

theorem deliver_ignoresResults (m : Message) : IgnoresResults (deliver m) :=
  fun s => ⟨setHost { s.host with slots := s.host.slots.set (classify m) } s, .event (classify m), fun _ => rfl⟩

theorem frameCommand_ignoresResults (cmd : Byte) (p : Message) : IgnoresResults (frameCommand cmd p) := by
  unfold frameCommand
  split
  · exact raiseFault_ignoresResults _
  · exact emitPacket_ignoresResults _ _

theorem frameOneChunk_ignoresResults (k : Message) : IgnoresResults (frameOneChunk k) := by
  intro s
  unfold frameOneChunk
  split
  · exact raiseFault_ignoresResults _ s
  · exact emitPacket_ignoresResults (checksum (chunkCovered s.config k)) (chunkPacket s.config k) s

theorem emitControl_ignoresResults (c : Byte) : IgnoresResults (emitControl c) := by
  unfold emitControl
  split
  · exact raiseFault_ignoresResults _
  · exact fun s => ⟨emit [c] s, .none, fun _ => rfl⟩

theorem frameJumpPacket_ignoresResults (a : Word) (p : Byte) : IgnoresResults (frameJumpPacket a p) := by
  unfold frameJumpPacket
  split
  · exact raiseFault_ignoresResults _
  · exact frameCommand_ignoresResults _ _

theorem answerCheck_ignoresResults (check : PacketCheck) (ok : Verdict) : IgnoresResults (answerCheck check ok) := by
  intro s
  cases check with
  | short => exact ⟨s, .verdict .short, fun _ => rfl⟩
  | badLength => exact ⟨s, .verdict .badLength, fun _ => rfl⟩
  | badChecksum c => exact ⟨setCrc c s, .verdict .badChecksum, fun _ => rfl⟩
  | ok c => exact ⟨setCrc c s, .verdict ok, fun _ => rfl⟩

theorem exec_ignoresResults (i : Instr) : IgnoresResults (exec i) := by
  cases i with
  | crcInit => exact fun s => ⟨setCrc Config.init s, .none, fun _ => rfl⟩
  | crcFeed b => exact fun s => ⟨setCrc (crcRaw s.crc (expandByte b)) s, .none, fun _ => rfl⟩
  | crcRead => exact fun s => ⟨s, .word s.crc, fun _ => rfl⟩
  | checksum d =>
    exact fun s => ⟨setCrc (feedWords Config.init d) s, .word (feedWords Config.init d), fun _ => rfl⟩
  | frameCmd c p | pktCommandOther c p => exact frameCommand_ignoresResults c p
  | frameChunk k | pktChunk k => exact frameOneChunk_ignoresResults k
  | emitCtrl c => exact emitControl_ignoresResults c
  | frameGetversion | pktGetversion => exact frameCommand_ignoresResults 0x00#8 []
  | frameErase a n | pktEraseflash a n => exact frameCommand_ignoresResults 0x01#8 (erasePayload a n)
  | frameProgramHdr x y z a n | pktFlashprogram x y z a n =>
    exact frameCommand_ignoresResults 0x02#8 (programPayload x y z a n)
  | frameJump a p | pktJumptoaddress a p => exact frameJumpPacket_ignoresResults a p
  | deframeCmd m => exact answerCheck_ignoresResults _ _
  | deframeChunk m => exact fun s => answerCheck_ignoresResults (checkChunk s.config m) _ s
  | classify m => exact fun s => ⟨s, .event (classify m), fun _ => rfl⟩
  | statusRead => exact fun s => ⟨s, .status (statusWord s), fun _ => rfl⟩
  | reservedF => exact raiseFault_ignoresResults .illegalOp
  | ctrlRequestAcknowledge => exact emitControl_ignoresResults 0x04#8
  | ctrlRequestVersion => exact emitControl_ignoresResults 0x05#8
  | rspAcknowledge => exact deliver_ignoresResults [0xFF#8]
  | rspNegativeAcknowledge => exact deliver_ignoresResults [0x01#8]
  | rspVersionReport x y z => exact deliver_ignoresResults [x, y, z]
  | rspUnrecognized m => exact deliver_ignoresResults m

/-- Settles O51: the operation does the same before and after the one more result. -/
theorem classifyCommutesWithEveryOperation : Obligations.ClassifyCommutesWithEveryOperation := by
  intro i m s
  obtain ⟨u, r, h⟩ := exec_ignoresResults i s
  exact ⟨_, _, _, _, exec_classify s rfl, h _, h s.results, exec_classify _ rfl, rfl, rfl, rfl, rfl⟩

/-! The orchestration path's next action, by its phase (60_exceptions.md R214, R220 to R223). -/

theorem step_advance {s : State} {rest : List Input} (hs : s.inputs = .advance :: rest) :
    step s = hostAdvance (setInputs rest s) :=
  step_cons hs

theorem step_timeout {s : State} {rest : List Input} (hs : s.inputs = .timeout :: rest) :
    step s = .next (setHost (s.host.waitReturns.getD s.host.waitExhausted) (setInputs rest s)) :=
  step_cons hs

theorem step_advance_frame {s : State} {rest : List Input} (hs : s.inputs = .advance :: rest)
    (hp : s.host.phase = .frame) : step s = frameNext (setInputs rest s) := by
  simp only [step_advance hs, hostAdvance, setInputs_host, hp]

theorem step_advance_transmit {s : State} {rest : List Input} (hs : s.inputs = .advance :: rest)
    (hp : s.host.phase = .transmit) : step s = .next (transmit (setInputs rest s)) := by
  simp only [step_advance hs, hostAdvance, setInputs_host, hp]

/-- A wait of the path. -/
def Phase.isWait : Phase → Bool
  | .awaitAcknowledge | .awaitNegativeAcknowledge | .awaitUnrecognized | .awaitVersion => true
  | .idle | .frame | .transmit | .poll | .requestVersion => false

/-- A wait returns where its slot is set, and goes on waiting where it is clear. -/
theorem step_advance_wait {s : State} {rest : List Input} (hs : s.inputs = .advance :: rest)
    (hp : s.host.phase.isWait = true) :
    step s = .next (setHost (s.host.waitReturns.getD s.host) (setInputs rest s)) := by
  rw [step_advance hs, hostAdvance, setInputs_host]
  cases hphase : s.host.phase with
  | awaitAcknowledge | awaitNegativeAcknowledge | awaitUnrecognized | awaitVersion => rfl
  | idle | frame | transmit | poll | requestVersion => rw [hphase] at hp; cases hp

theorem step_advance_wait_clear {s : State} {rest : List Input} (hs : s.inputs = .advance :: rest)
    (hp : s.host.phase.isWait = true) (hw : s.host.waitReturns = none) : step s = .next (setInputs rest s) := by
  rw [step_advance_wait hs hp, hw]
  rfl

theorem step_timeout_clear {s : State} {rest : List Input} (hs : s.inputs = .timeout :: rest)
    (hw : s.host.waitReturns = none) : step s = .next (setHost s.host.waitExhausted (setInputs rest s)) := by
  rw [step_timeout hs, hw]
  rfl

/-! What each wait returns (R212, R214). -/

section

variable {h : HostEnv}

theorem HostEnv.waitReturns_acknowledge (hp : h.phase = .awaitAcknowledge) (hslot : h.slots.acknowledge = true) :
    h.waitReturns = some ({ h with slots := { h.slots with acknowledge := false } }.goto .frame) := by
  simp only [waitReturns, hp, hslot, if_true]

theorem HostEnv.waitReturns_negativeAcknowledge (hp : h.phase = .awaitNegativeAcknowledge)
    (hslot : h.slots.negativeAcknowledge = true) :
    h.waitReturns = some (({ h with slots := { h.slots with negativeAcknowledge := false } }.note
      .negativeAcknowledged).goto .transmit) := by
  simp only [waitReturns, hp, hslot, if_true]

theorem HostEnv.waitReturns_negativeAcknowledge_clear (hp : h.phase = .awaitNegativeAcknowledge)
    (hslot : h.slots.negativeAcknowledge = false) : h.waitReturns = none := by
  simp [waitReturns, hp, hslot]

theorem HostEnv.waitReturns_unrecognized {m : Message} (hp : h.phase = .awaitUnrecognized)
    (hslot : h.slots.unrecognized = some m) :
    h.waitReturns = some (({ h with slots := { h.slots with unrecognized := none } }.note
      .unrecognizedResponse).goto .transmit) := by
  simp only [waitReturns, hp, hslot]

theorem HostEnv.waitReturns_unrecognized_clear (hp : h.phase = .awaitUnrecognized)
    (hslot : h.slots.unrecognized = none) : h.waitReturns = none := by
  simp only [waitReturns, hp, hslot]

/-- With all four slots clear no wait returns. -/
theorem HostEnv.waitReturns_clear (hslots : h.slots = Slots.clear) : h.waitReturns = none := by
  unfold waitReturns
  rw [hslots]
  cases h.phase <;> rfl

/-- `T` passes in the second wait: the third one follows. -/
theorem HostEnv.waitExhausted_negativeAcknowledge (hp : h.phase = .awaitNegativeAcknowledge) :
    h.waitExhausted =
      { h with elapsedMs := h.elapsedMs + Config.responseTimeoutMs }.goto .awaitUnrecognized := by
  simp only [waitExhausted, hp]

/-- `T` passes in the last wait: the attempt has met no response. -/
theorem HostEnv.waitExhausted_unrecognized (hp : h.phase = .awaitUnrecognized) :
    h.waitExhausted =
      ({ h with elapsedMs := h.elapsedMs + Config.responseTimeoutMs }.note .responseTimeout).goto .transmit := by
  simp only [waitExhausted, hp]

end

/-- Settles O56: by what the attempt's waits return, and by the exhaustion of the last one. -/
theorem attemptEndsByItsWaits : Obligations.AttemptEndsByItsWaits := by
  refine ⟨fun s rest hs hp hslot => ?_, fun s rest hs hp hslot => ?_, fun s rest m hs hp hslot => ?_,
    fun s rest hs hp hslot => ?_⟩
  · rw [step_advance_wait hs (by rw [hp]; rfl), HostEnv.waitReturns_acknowledge hp hslot]
    exact ⟨_, rfl, rfl, rfl⟩
  · rw [step_advance_wait hs (by rw [hp]; rfl), HostEnv.waitReturns_negativeAcknowledge hp hslot]
    exact ⟨_, rfl, rfl, rfl⟩
  · rw [step_advance_wait hs (by rw [hp]; rfl), HostEnv.waitReturns_unrecognized hp hslot]
    exact ⟨_, rfl, rfl, rfl⟩
  · rw [step_timeout_clear hs (HostEnv.waitReturns_unrecognized_clear hp hslot), HostEnv.waitExhausted_unrecognized hp]
    exact ⟨_, rfl, rfl, rfl⟩

/-! Runs: the first step, then the rest. -/

theorem run_core_succ {s t : State} (k : Nat) (h : step s = .next t) :
    Host.Core.run core (k + 1) s = Host.Core.run core k t :=
  run_succ_of_step core k h

/-- The state after the delivery of an Acknowledge. -/
def State.acknowledged (s : State) : State :=
  { s with
    results := s.results ++ [OpResult.event .acknowledge],
    host := { s.host with slots := { s.host.slots with acknowledge := true } } }

theorem step_acknowledge {s : State} {rest : List Input}
    (hs : s.inputs = .code (.wire .response [0xFF#8]) :: rest) : step s = .next (setInputs rest s).acknowledged :=
  (step_code_ok (i := .rspAcknowledge) hs rfl).trans (deliver_eq (setInputs rest s) rfl)

/-- The path looks, finds the slot of the second wait clear, and that wait is exhausted. -/
theorem run_negativeAcknowledge_clear {s : State} {rest : List Input} (hs : s.inputs = .advance :: .timeout :: rest)
    (hp : s.host.phase = .awaitNegativeAcknowledge) (hslot : s.host.slots.negativeAcknowledge = false) :
    Host.Core.run core 2 s = .next (setHost ({ s.host with
      elapsedMs := s.host.elapsedMs + Config.responseTimeoutMs }.goto .awaitUnrecognized) (setInputs rest s)) := by
  have hclear : s.host.waitReturns = none := HostEnv.waitReturns_negativeAcknowledge_clear hp hslot
  have hexhausted := step_timeout_clear (s := setInputs (.timeout :: rest) s) rfl hclear
  rw [run_core_succ 1 (step_advance_wait_clear hs (by rw [hp]; rfl) hclear), run_core_succ 0 hexhausted,
    setInputs_host, HostEnv.waitExhausted_negativeAcknowledge hp]
  rfl

/-- Settles O57: the delivery, then the look and the exhausted wait. -/
theorem lateAcknowledgeStaysSet : Obligations.LateAcknowledgeStaysSet := by
  intro s rest hp hslot hs
  have hwait := run_negativeAcknowledge_clear (s := (setInputs (.advance :: .timeout :: rest) s).acknowledged)
    rfl hp hslot
  exact ⟨_, (run_core_succ 2 (step_acknowledge hs)).trans hwait, rfl, rfl, rfl⟩

/-! The next packet (60_exceptions.md R212, R221). -/

theorem frameNext_cons {s : State} {op : Instr} {ops : List Instr} (h : s.host.plan.remaining = op :: ops) :
    frameNext s = issue op (setHost { s.host with slots := Slots.clear } s) (keepPacket s.txq.length ops) := by
  simp only [frameNext, h]

/-- The packet that is kept is the one message queued last. -/
theorem keepPacket_of_emitted {q : List Message} {m : Message} {s : State} (ops : List Instr) (h : s.txq = q ++ [m]) :
    keepPacket q.length ops s = setHost { s.host with
      packet := m, attemptsLeft := s.host.plan.limit, plan := { s.host.plan with remaining := ops },
      phase := .transmit } s := by
  simp only [keepPacket, h, List.drop_left]

theorem keepPacket_of_not_emitted {q : List Message} {s : State} (ops : List Instr) (h : s.txq = q) :
    keepPacket q.length ops s = setHost (s.host.finish .framingFault) s := by
  simp only [keepPacket, h, List.drop_length]

theorem raiseFault_next {r : FaultReason} {s u : State} (h : raiseFault r s = .next u) :
    u.txq = s.txq ∧ u.host = s.host := by
  cases h
  exact ⟨rfl, rfl⟩

theorem emitPacket_next {c : Word} {m : Message} {s u : State} (h : emitPacket c m s = .next u) :
    u.txq = s.txq ++ [m] ∧ u.host = s.host := by
  cases h
  exact ⟨rfl, rfl⟩

/-- The packet's operation takes effect on clear slots; either the message it emits is kept, or it faults and the sequence
ends. -/
theorem frameNext_framing {s t : State} {op : Instr} {ops : List Instr} (hplan : s.host.plan.remaining = op :: ops)
    (hop : IsFraming op = true) (ht : frameNext s = .next t) :
    t.host.slots = Slots.clear ∧
      ((t.host.phase = .transmit ∧ t.txq = s.txq ++ [t.host.packet] ∧ t.host.attemptsLeft = s.host.plan.limit) ∨
        (t.host.phase = .idle ∧ t.txq = s.txq ∧ t.host.reports = s.host.reports ++ [HostReport.framingFault])) := by
  rw [frameNext_cons hplan] at ht
  obtain ⟨u, hu, rfl⟩ := issue_eq_next ht
  obtain ⟨r, h⟩ | ⟨c, m, h⟩ := exec_faultsOrEmits (setHost { s.host with slots := Slots.clear } s) hop
  · obtain ⟨htxq, hhost⟩ := raiseFault_next (h.symm.trans hu)
    rw [setHost_txq] at htxq
    rw [keepPacket_of_not_emitted ops htxq, hhost]
    exact ⟨rfl, .inr ⟨rfl, htxq, rfl⟩⟩
  · obtain ⟨htxq, hhost⟩ := emitPacket_next (h.symm.trans hu)
    rw [setHost_txq] at htxq
    rw [keepPacket_of_emitted ops htxq, hhost]
    exact ⟨rfl, .inl ⟨rfl, htxq, rfl⟩⟩

/-- Settles O54: by what the building of the next packet leaves. -/
theorem slotsAreClearedBeforeARequest : Obligations.SlotsAreClearedBeforeARequest := by
  intro s t op ops rest hs hp hplan hop ht
  exact frameNext_framing (s := setInputs rest s) hplan hop ((step_advance_frame hs hp).symm.trans ht)

/-! The retry executor (60_exceptions.md R214, R216): one attempt without a response, and the end of the attempts. -/

theorem transmit_exhausted {s : State} (h0 : s.host.attemptsLeft = 0) :
    transmit s = setHost (s.host.fail .retriesExhausted) s :=
  if_pos h0

theorem step_advance_exhausted {s : State} {rest : List Input} (hs : s.inputs = .advance :: rest)
    (hp : s.host.phase = .transmit) (h0 : s.host.attemptsLeft = 0) :
    step s = .next (setHost (s.host.fail .retriesExhausted) (setInputs rest s)) := by
  rw [step_advance_transmit hs hp, transmit_exhausted (s := setInputs rest s) h0, setInputs_host]

/-- Settles O59: by what the path does with no attempt left. -/
theorem exhaustedAttemptsAbortTheSequence : Obligations.ExhaustedAttemptsAbortTheSequence :=
  fun _ _ hs hp h0 => ⟨_, step_advance_exhausted hs hp h0, rfl, rfl, rfl, rfl, rfl, rfl, rfl, rfl⟩

theorem HostEnv.waitExhausted_slots (h : HostEnv) : h.waitExhausted.slots = h.slots := by
  unfold waitExhausted
  cases h.phase <;> rfl

/-- As often as `T` passes with all four slots clear, the running wait is exhausted. -/
theorem run_timeouts_clear {s : State} {rest : List Input} (n k : Nat) (hs : s.inputs = List.replicate n .timeout ++ rest)
    (hslots : s.host.slots = Slots.clear) :
    Host.Core.run core (k + n) s =
      Host.Core.run core k (setHost (HostEnv.waitExhausted^[n] s.host) (setInputs rest s)) := by
  induction n generalizing s with
  | zero =>
    have hrest : s.inputs = rest := hs
    rw [← hrest]
    rfl
  | succ n ih =>
    have hclear : s.host.waitExhausted.slots = Slots.clear := s.host.waitExhausted_slots.trans hslots
    rw [← Nat.add_assoc, run_core_succ _ (step_timeout_clear hs (HostEnv.waitReturns_clear hslots)), ih rfl hclear]
    rfl

/-- The host after the send of an attempt after the first, without a poll. -/
def HostEnv.retrySent (h : HostEnv) : HostEnv :=
  { h.publish [h.packet] with attemptsLeft := h.attemptsLeft - 1, phase := .awaitAcknowledge }

theorem transmit_retry_noPoll {s : State} (h0 : 0 < s.host.attemptsLeft)
    (hl : s.host.attemptsLeft < s.host.plan.limit) (hpoll : s.host.plan.poll = false) :
    transmit s = setHost s.host.retrySent s := by
  rw [transmit_retry h0 hl, hpoll]
  rfl

/-- What an attempt after the first leaves of the host where it meets no response: one send with its pacing delay and
three exhausted waits. -/
def HostEnv.silentAttempt (h : HostEnv) : HostEnv :=
  { h with
    attemptsLeft := h.attemptsLeft - 1,
    sent := h.sent ++ [h.packet],
    errors := h.errors ++ [HostError.responseTimeout],
    elapsedMs := h.elapsedMs + (3 * 5000 + 500),
    phase := .transmit }

theorem HostEnv.waitExhausted_retrySent (h : HostEnv) : waitExhausted^[3] h.retrySent = h.silentAttempt := by
  have helapsed : h.elapsedMs + (3 * 5000 + 500) = h.elapsedMs + 500 * 1 + 5000 + 5000 + 5000 := by omega
  rw [silentAttempt, helapsed]
  rfl

/-- The inputs of an attempt without a response. -/
def silentInputs : List Input := [.advance, .timeout, .timeout, .timeout]

theorem run_silentAttempt {s : State} {rest : List Input} (k : Nat) (hs : s.inputs = silentInputs ++ rest)
    (hp : s.host.phase = .transmit) (h0 : 0 < s.host.attemptsLeft) (hl : s.host.attemptsLeft < s.host.plan.limit)
    (hpoll : s.host.plan.poll = false) (hslots : s.host.slots = Slots.clear) :
    Host.Core.run core (k + 3 + 1) s = Host.Core.run core k (setHost s.host.silentAttempt (setInputs rest s)) := by
  have hretry := transmit_retry_noPoll (s := setInputs (List.replicate 3 .timeout ++ rest) s) h0 hl hpoll
  have hsend := (step_advance_transmit hs hp).trans (congrArg Host.Outcome.next hretry)
  have hwaits := run_timeouts_clear (s := setHost s.host.retrySent (setInputs _ s)) (rest := rest) 3 k rfl hslots
  rw [setHost_host, HostEnv.waitExhausted_retrySent] at hwaits
  exact (run_core_succ _ hsend).trans hwaits

/-- Settles O58: by induction on the attempts left. -/
theorem silenceExhaustsTheAttempts : Obligations.SilenceExhaustsTheAttempts := by
  intro n
  induction n with
  | zero =>
    intro s hp h0 _ _ _ hs
    rw [run_core_succ 0 (step_advance_exhausted hs hp h0)]
    exact ⟨_, rfl, rfl, rfl, by simp [HostEnv.fail], rfl, by simp [HostEnv.fail], rfl, rfl, rfl, rfl⟩
  | succ n ih =>
    intro s hp hn hl hpoll hslots hs
    have hleft : s.host.silentAttempt.attemptsLeft = n := congrArg (· - 1) hn
    have hlimit : n < s.host.plan.limit := by omega
    obtain ⟨t, hrun, hphase, hinputs, hsent, hreports, helapsed, hblock⟩ :=
      ih (setHost s.host.silentAttempt (setInputs _ s)) rfl hleft hlimit hpoll hslots rfl
    have hattempt := run_silentAttempt (4 * n + 1) hs hp (by omega) (by omega) hpoll hslots
    refine ⟨t, hattempt.trans hrun, hphase, hinputs, ?_, hreports, ?_, hblock⟩
    · rw [hsent]
      simp [HostEnv.silentAttempt, List.replicate_succ]
    · rw [helapsed]
      simp [HostEnv.silentAttempt]
      omega

/-! The plans of the sequences (60_exceptions.md R215, R220 to R223). -/

/-- Settles O53: the plan of each sequence is the one stated. -/
theorem sequencesHaveTheirPlans : Obligations.SequencesHaveTheirPlans :=
  ⟨rfl, fun _ _ _ _ _ _ => rfl, fun _ _ => rfl, fun _ _ => rfl⟩

end Sys2Proof.Machine

namespace Sys2Proof.Machine

/-! Reset (70_reset_and_hazards.md R250, R251). -/

theorem step_reset {s : State} {rest : List Input} (hs : s.inputs = .reset :: rest) :
    step s = .next (resetBlock (setInputs rest s)) :=
  step_cons hs

/-- Settles O1: the values of `State.reset`, and those of `resetBlock` after any state. -/
theorem resetSetsEveryPieceOfState : Obligations.ResetSetsEveryPieceOfState :=
  ⟨⟨rfl, rfl, rfl, rfl⟩, fun _ _ hs => ⟨_, step_reset hs, rfl, rfl, rfl, rfl, rfl⟩⟩

/-- From `s` to `t` the status was not cleared: a fault stays a fault, and a reason stays the same reason. -/
def KeepsStatus (s t : State) : Prop :=
  (s.fault = 1#1 → t.fault = 1#1) ∧ (s.faultReason ≠ 0#4 → t.faultReason = s.faultReason)

theorem KeepsStatus.of_eq {s t : State} (hf : t.fault = s.fault) (hr : t.faultReason = s.faultReason) :
    KeepsStatus s t :=
  ⟨hf.trans, fun _ => hr⟩

theorem KeepsStatus.trans {s t u : State} (hst : KeepsStatus s t) (htu : KeepsStatus t u) : KeepsStatus s u := by
  obtain ⟨hf, hr⟩ := hst
  obtain ⟨hf', hr'⟩ := htu
  exact ⟨fun h => hf' (hf h), fun h => (hr' (hr h ▸ h)).trans (hr h)⟩

/-- The one effect that writes the status, a fault's, sets the flag and keeps the first reason. -/
theorem Effect.keepsStatus {s t : State} {A : Answer} (he : Effect s A) (hA : A = .next t) : KeepsStatus s t := by
  cases he with
  | faults r =>
    cases hA
    exact ⟨fun _ => rfl, fun h => keepFirstReason_of_ne_zero h r⟩
  | answers r c h => cases hA; exact .of_eq rfl rfl
  | emits c m h => cases hA; exact .of_eq rfl rfl
  | delivers m => cases hA; exact .of_eq rfl rfl

theorem OnlyHostAndTxq.keepsStatus {s t : State} (h : OnlyHostAndTxq s t) : KeepsStatus s t := by
  obtain ⟨env, q, rfl⟩ := h
  exact .of_eq rfl rfl

theorem Advance.keepsStatus {s t : State} (h : Advance s t) : KeepsStatus s t := by
  cases h with
  | hostOnly h => exact h.keepsStatus
  | issues i env u hu ht =>
    have hissued : KeepsStatus s u := (exec_effect i (setHost env s)).keepsStatus hu
    exact hissued.trans ht.keepsStatus

theorem runInput_keepsStatus {i : Input} {s t : State} (hi : i ≠ .reset) (h : runInput i s = .next t) :
    KeepsStatus s t := by
  cases i with
  | code c => exact (runCode_effect c s).keepsStatus h
  | publish => cases h; exact (publishHead_onlyHostAndTxq s).keepsStatus
  | reset => exact absurd rfl hi
  | advance => exact (hostAdvance_advance h).keepsStatus
  | start | timeout | restart => cases h; exact (setHost_onlyHostAndTxq _ s).keepsStatus

/-- Settles O2: reset clears the status, and of the other inputs none does. -/
theorem onlyResetClearsTheStatus : Obligations.OnlyResetClearsTheStatus := by
  refine ⟨fun s rest hs => ⟨_, step_reset hs, rfl, rfl, rfl⟩, fun s t h hno => ?_⟩
  cases hs : s.inputs with
  | nil =>
    rw [step_nil hs] at h
    cases h
    exact KeepsStatus.of_eq rfl rfl
  | cons i rest =>
    have hi : i ≠ .reset := fun hi => hno rest (hi ▸ hs)
    rw [step_cons hs] at h
    exact runInput_keepsStatus (s := setInputs rest s) hi h

/-! What overwrites `crc` (R256): the whole answer, not only the `crc` it leaves, is the same whatever `crc` was. -/

/-- The answer in `s` does not depend on `crc`. -/
def OverwritesCrc (op : State → Answer) (s : State) : Prop := ∀ c, op (setCrc c s) = op s

/-- A fault leaves `crc` as it was, so framing overwrites it only where it does not fault. -/
def FaultsOrOverwritesCrc (op : State → Answer) (s : State) : Prop :=
  (∃ r, op s = raiseFault r s) ∨ OverwritesCrc op s

theorem frameCommand_faultsOrOverwritesCrc (cmd : Byte) (p : Message) (s : State) :
    FaultsOrOverwritesCrc (frameCommand cmd p) s := by
  unfold FaultsOrOverwritesCrc OverwritesCrc frameCommand
  split
  · exact .inl ⟨_, rfl⟩
  · exact .inr fun _ => rfl

theorem frameOneChunk_faultsOrOverwritesCrc (k : Message) (s : State) :
    FaultsOrOverwritesCrc (frameOneChunk k) s := by
  unfold FaultsOrOverwritesCrc OverwritesCrc frameOneChunk
  split
  · exact .inl ⟨_, rfl⟩
  · exact .inr fun _ => rfl

theorem frameJumpPacket_faultsOrOverwritesCrc (a : Word) (p : Byte) (s : State) :
    FaultsOrOverwritesCrc (frameJumpPacket a p) s := by
  unfold FaultsOrOverwritesCrc OverwritesCrc frameJumpPacket
  split
  · exact .inl ⟨_, rfl⟩
  · exact frameCommand_faultsOrOverwritesCrc _ _ _

/-- Every framing operation or outbound code but the control bytes. -/
theorem exec_faultsOrOverwritesCrc {i : Instr} (s : State) (hf : IsFraming i = true) (hl : LeavesCrc i = false) :
    FaultsOrOverwritesCrc (exec i) s := by
  cases i
  case frameCmd c p => exact frameCommand_faultsOrOverwritesCrc _ _ _
  case frameChunk k => exact frameOneChunk_faultsOrOverwritesCrc _ _
  case frameGetversion => exact frameCommand_faultsOrOverwritesCrc 0x00#8 [] s
  case frameErase a b => exact frameCommand_faultsOrOverwritesCrc 0x01#8 (erasePayload a b) s
  case frameProgramHdr x y z a n => exact frameCommand_faultsOrOverwritesCrc 0x02#8 (programPayload x y z a n) s
  case frameJump a p => exact frameJumpPacket_faultsOrOverwritesCrc _ _ _
  case pktGetversion => exact frameCommand_faultsOrOverwritesCrc 0x00#8 [] s
  case pktEraseflash a b => exact frameCommand_faultsOrOverwritesCrc 0x01#8 (erasePayload a b) s
  case pktFlashprogram x y z a n => exact frameCommand_faultsOrOverwritesCrc 0x02#8 (programPayload x y z a n) s
  case pktJumptoaddress a p => exact frameJumpPacket_faultsOrOverwritesCrc _ _ _
  case pktCommandOther c p => exact frameCommand_faultsOrOverwritesCrc _ _ _
  case pktChunk k => exact frameOneChunk_faultsOrOverwritesCrc _ _
  case emitCtrl | ctrlRequestAcknowledge | ctrlRequestVersion => cases hl
  all_goals cases hf

/-- A framing operation that answered None did not fault. -/
theorem exec_overwritesCrc_of_none {i : Instr} {s t : State} (hf : IsFraming i = true) (hl : LeavesCrc i = false)
    (h : exec i s = .next t) (ht : t.results = s.results ++ [.none]) : OverwritesCrc (exec i) s := by
  obtain ⟨r, hr⟩ | ho := exec_faultsOrOverwritesCrc s hf hl
  · exact (raiseFault_not_none (hr.symm.trans h) ht).elim
  · exact ho

/-- A deframer past its length check overwrites `crc`: its check came to the checksum comparison. -/
theorem answerCheck_overwritesCrc {check : PacketCheck} {ok v : Verdict} {s t : State}
    (h : answerCheck check ok s = .next t) (ht : t.results = s.results ++ [.verdict v]) (hshort : v ≠ .short)
    (hlength : v ≠ .badLength) : OverwritesCrc (answerCheck check ok) s := by
  cases check with
  | short =>
    cases h
    exact absurd (by simpa using ht.symm) hshort
  | badLength =>
    cases h
    exact absurd (by simpa using ht.symm) hlength
  | badChecksum c => exact fun _ => rfl
  | ok c => exact fun _ => rfl

/-- The feed after an operation that overwrites `crc` goes on from the `crc` it left, whatever `crc` was before it. -/
theorem OverwritesCrc.feed {i : Instr} {s : State} (h : OverwritesCrc (exec i) s) (b : Byte) (c : Word) :
    ∃ t u, exec i s = .next t ∧ exec i (setCrc c s) = .next t ∧ exec (.crcFeed b) t = .next u ∧
      u.crc = crcWord t.crc (zext32 b) := by
  obtain ⟨t, ht⟩ := exec_next i s
  exact ⟨t, _, ht, (h c).trans ht, exec_crcFeed b t, rfl⟩

/-- Settles O21: each operation named overwrites `crc`, and FRAME_GETVERSION with the checksum of its packet. -/
theorem overwriteBetweenFeedsReplacesCrc : Obligations.OverwriteBetweenFeedsReplacesCrc := by
  refine ⟨fun i s hi b c => ?_, fun b s => ?_, by decide +kernel⟩
  · have ho : OverwritesCrc (exec i) s := by
      obtain ⟨d, rfl⟩ | ⟨hf, -, hl, t, h, ht⟩ | ⟨⟨m, rfl | rfl⟩, t, v, h, ht, hshort, hlength⟩ := hi
      · exact fun _ => rfl
      · exact exec_overwritesCrc_of_none hf hl h ht
      · exact answerCheck_overwritesCrc h ht hshort hlength
      · exact answerCheck_overwritesCrc (check := checkChunk s.config m) h ht hshort hlength
    obtain ⟨t, u, ht, ht', hu, hcrc⟩ := ho.feed b c
    exact ⟨t, u, t, u, ht, hu, ht', hu, hcrc, rfl, rfl⟩
  · obtain ⟨hpacket, -⟩ := getVersionPacket
    exact ⟨_, _, hpacket s, exec_crcFeed b _, rfl⟩

/-! The bounds of the emitted messages (R258). -/

theorem IsChunkPacket.length_bounds {config : Config} {m : Message} (h : IsChunkPacket config m) :
    6 ≤ m.length ∧ m.length ≤ 257 := by
  obtain ⟨k, h1, h2, rfl⟩ := (isChunkPacket_iff config m).mp h
  rw [chunkPacket_length]
  omega

theorem IsCommandPacket.length_bounds {m : Message} (h : IsCommandPacket m) : 6 ≤ m.length ∧ m.length ≤ 260 := by
  obtain ⟨cmd, p, hp, rfl⟩ := (isCommandPacket_iff m).mp h
  rw [commandPacket_length]
  omega

theorem IsControlByte.length_eq {m : Message} (h : IsControlByte m) : m.length = 1 := by
  obtain rfl | rfl := h
  · rfl
  · rfl

theorem IsOutbound.length_bounds {config : Config} {m : Message} (h : IsOutbound config m) :
    1 ≤ m.length ∧ m.length ≤ 260 := by
  obtain h | h | h := h
  · have hlen := h.length_bounds
    omega
  · have hlen := h.length_bounds
    omega
  · have hlen := h.length_eq
    omega

/-- A builder's payload has at most 11 bytes, and a packet 6 more. -/
theorem IsBuilder.emitted_length {i : Instr} (hi : IsBuilder i) {s t : State} {m : Message} (h : exec i s = .next t)
    (ht : t.txq = s.txq ++ [m]) : m.length ≤ 17 := by
  obtain hf | ⟨cmd, p, hp, hf⟩ := hi.exec_cases s
  · cases hf.symm.trans h
    simp [State.faulted] at ht
  · rw [hf, exec_frameCmd cmd s (by omega)] at h
    cases h
    have hm : commandPacket cmd p = m := by simpa [State.emitted] using ht
    rw [← hm, commandPacket_length]
    omega

/-- Settles O50: by the kinds of outbound messages of the invariant, and by what a builder emits. -/
theorem emittedMessagesFit : Obligations.EmittedMessagesFit := by
  refine ⟨fun s hinv m hm => ?_, fun i s t m rx hrx hi h ht => (IsBuilder.emitted_length hi h ht).trans hrx⟩
  obtain ⟨-, htxq, -, -⟩ := hinv
  refine ⟨(htxq m hm).length_bounds, fun rx hrx hkind => ?_⟩
  obtain hchunk | hcontrol := hkind
  · have hlen := hchunk.length_bounds
    omega
  · have hlen := hcontrol.length_eq
    omega

/-! A new run of the host (R252). -/

theorem step_restart {s : State} {rest : List Input} (hs : s.inputs = .restart :: rest) :
    step s = .next (restartHost (setInputs rest s)) :=
  step_cons hs

/-- Settles O60: by the host's start, which the block has no part in. -/
theorem restartClearsTheSlots : Obligations.RestartClearsTheSlots :=
  fun _ _ hs => ⟨_, step_restart hs, rfl, rfl, rfl, rfl, rfl, rfl, rfl, rfl⟩

end Sys2Proof.Machine

namespace Sys2Proof.Machine

/-! The decoder on what the encoder writes (30_encoding.md sections 1 and 2): each row's message passes its format's check,
and its fields are read back. -/

/-- Every word is read from four bytes (00_scope.md R13). -/
theorem exists_eq_fromBe32 (v : Word) : ∃ b0 b1 b2 b3, v = fromBe32 [b0, b1, b2, b3] :=
  ⟨_, _, _, _, (fromBe32_be32 v).symm⟩

/-- What no CommandKind's builder sends has no other row than PKT_COMMAND_OTHER (log 8). -/
theorem CommandRow.eq_other {cmd : Byte} {p : Message} {i : Instr} (h : CommandRow cmd p i)
    (hkind : isKindPayload cmd p = false) : i = .pktCommandOther cmd p := by
  cases h with
  | getversion => cases hkind
  | eraseflash a n => cases hkind
  | flashprogram x y z a n => cases hkind
  | jumptoaddress a q hq =>
    obtain ⟨a0, a1, a2, a3, rfl⟩ := exists_eq_fromBe32 a
    rw [jumpPayload_fromBe32, isKindPayload_jumpPayload, hq] at hkind
    cases hkind
  | other cmd p _ => rfl

/-- The decoder reads a command byte and a payload as their row. -/
theorem CommandRow.decodeCommandBody_eq {cmd : Byte} {p : Message} {i : Instr} (h : CommandRow cmd p i) :
    decodeCommandBody cmd p = i := by
  cases h with
  | getversion => rfl
  | eraseflash a n => rfl
  | flashprogram x y z a n =>
    obtain ⟨a0, a1, a2, a3, rfl⟩ := exists_eq_fromBe32 a
    obtain ⟨n0, n1, n2, n3, rfl⟩ := exists_eq_fromBe32 n
    simp [decodeCommandBody, programPayload_fromBe32]
  | jumptoaddress a q hq =>
    obtain ⟨a0, a1, a2, a3, rfl⟩ := exists_eq_fromBe32 a
    simp [decodeCommandBody, jumpPayload_fromBe32, hq]
  | other cmd p hkind => exact (decodeCommandBody_row cmd p).eq_other hkind

theorem decodeCommand_commandPacket_eq (cmd : Byte) {p : Message} (hp : p.length ≤ 254) :
    decodeCommand (commandPacket cmd p) = .ok (decodeCommandBody cmd p) := by
  simp only [decodeCommand, checkCommand_commandPacket cmd hp, receivedPayload_commandPacket cmd hp]
  rfl

theorem decodeChunk_chunkPacket_eq (config : Config) {k : Message} (h1 : 1 ≤ k.length) (h2 : k.length ≤ 252) :
    decodeChunk config (chunkPacket config k) = .ok (.pktChunk k) := by
  simp only [decodeChunk, checkChunk_chunkPacket config h1 h2, receivedChunk_chunkPacket config h2]

theorem decode_encode_of_row {cmd : Byte} {p : Message} {i : Instr} (config : Config) (h : CommandRow cmd p i)
    (hp : p.length ≤ 254) : decode config (encode config i) = .ok i := by
  rw [h.encode config]
  exact (decodeCommand_commandPacket_eq cmd hp).trans (congrArg _ h.decodeCommandBody_eq)

theorem decodeResponse_versionReport (x y z : Byte) : decodeResponse [x, y, z] = .rspVersionReport x y z := by
  simp [decodeResponse]

theorem decodeResponse_unrecognized {m : Message} (hack : m ≠ [0xFF#8]) (hnack : m ≠ [0x01#8]) (hlen : m.length ≠ 3) :
    decodeResponse m = .rspUnrecognized m := by
  unfold decodeResponse
  rw [if_neg hack, if_neg hnack]
  split
  · exact absurd rfl hlen
  · rfl

/-- Settles O41: a command packet by its row, a chunk packet by its check, a response by its length and content; a port
request, a control byte and the fixed responses are read back by the decoder's tables, whatever their fields. -/
theorem decodeOfEncodeIsTheInstruction : Obligations.DecodeOfEncodeIsTheInstruction := by
  intro config i hwf
  cases i
  case pktGetversion => exact decode_encode_of_row config .getversion (Nat.zero_le 254)
  case pktEraseflash a n => exact decode_encode_of_row config (.eraseflash a n) (by simp [erasePayload])
  case pktFlashprogram x y z a n =>
    exact decode_encode_of_row config (.flashprogram x y z a n) (by simp [programPayload_length])
  case pktJumptoaddress a p =>
    exact decode_encode_of_row config (.jumptoaddress a p hwf) (by simp [jumpPayload_length])
  case pktCommandOther cmd p =>
    obtain ⟨hkind, hp⟩ := Bool.and_eq_true_iff.mp hwf
    exact decode_encode_of_row config (.other cmd p (by simpa using hkind)) (of_decide_eq_true hp)
  case pktChunk k =>
    obtain ⟨h1, h2⟩ := Bool.and_eq_true_iff.mp hwf
    exact decodeChunk_chunkPacket_eq config (of_decide_eq_true h1) (of_decide_eq_true h2)
  case rspVersionReport x y z => exact congrArg Except.ok (decodeResponse_versionReport x y z)
  case rspUnrecognized m =>
    simp only [Instr.wf, Bool.and_eq_true, decide_eq_true_eq] at hwf
    obtain ⟨⟨hack, hnack⟩, hlen⟩ := hwf
    exact congrArg Except.ok (decodeResponse_unrecognized hack hnack hlen)
  all_goals rfl

/-- A code written out decodes to the well-formed instruction that it encodes. -/
theorem decode_eq_of_encode_eq {config : Config} {c : Code} {i : Instr} (hwf : i.wf = true) (h : encode config i = c) :
    decode config c = .ok i :=
  h ▸ decodeOfEncodeIsTheInstruction config i hwf

/-- Settles O39: each word is its instruction's encoding, which the decoder gives back. -/
theorem specWordsDecode : Obligations.SpecWordsDecode :=
  ⟨decode_eq_of_encode_eq rfl rfl, decode_eq_of_encode_eq rfl (by decide +kernel),
    decode_eq_of_encode_eq rfl (by decide +kernel), decode_eq_of_encode_eq rfl rfl, decode_eq_of_encode_eq rfl rfl⟩

/-- Settles O48: after reset there is no fault and no reason, no message is queued or sent, and no packet is held. -/
theorem resetMeetsTheInvariant : Obligations.ResetMeetsTheInvariant :=
  ⟨⟨iff_of_true rfl rfl, Nat.zero_le 5⟩, List.forall_mem_nil _, List.forall_mem_nil _, nofun⟩

end Sys2Proof.Machine
